-- ==== Sys2Proof/Word.lean ====
section
/-! DEFINITION. The three value widths of the unit (00_scope.md R7, R9): byte, word, doubleword. -/

namespace Sys2Proof

/-- A byte: bits 7..0, bit 0 the least significant (R7). -/
abbrev Byte := BitVec 8

/-- A word: bits 31..0 (R7). Every register of the register window is one word wide (R22). -/
abbrev Word := BitVec 32

/-- A doubleword: bits 63..0 (R7), the width of the GF(2^64) operands and of a `_HI : _LO` register pair. -/
abbrev DWord := BitVec 64

end Sys2Proof
end

