-- ==== Sys2Proof/Machine/Bytes.lean ====
section
/-! DEFINITION. Byte positions, big-endian packing and register-pair halves (00_scope.md R8 to R10). -/

namespace Sys2Proof.Machine

/-- R8: byte `j` of a word, byte 0 the most significant: `w[31-8j : 24-8j]`. -/
def byteOf (j : Nat) (w : Word) : Byte := BitVec.extractLsb' (24 - 8 * j) 8 w

/-- R8: `BE32`, the first byte in the most significant place. -/
def be32 (b0 b1 b2 b3 : Byte) : Word := b0 ++ b1 ++ b2 ++ b3

/-- R8: `BE64`, the same packing for eight bytes. -/
def be64 (b0 b1 b2 b3 b4 b5 b6 b7 : Byte) : DWord := be32 b0 b1 b2 b3 ++ be32 b4 b5 b6 b7

/-- The four bytes of a word at increasing offsets: `byte_0, byte_1, byte_2, byte_3` (20_memory.md R64). -/
def wordBytes (w : Word) : List Byte := [byteOf 0 w, byteOf 1 w, byteOf 2 w, byteOf 3 w]

/-- Bits 31:0 of a register pair: what its `_LO` register holds (10_state.md R39). -/
def loHalf (d : DWord) : Word := BitVec.extractLsb' 0 32 d

/-- Bits 63:32 of a register pair: what its `_HI` register holds (10_state.md R39). -/
def hiHalf (d : DWord) : Word := BitVec.extractLsb' 32 32 d

/-- A register pair read as one value: `HI : LO` (R10). -/
def pairOf (hi lo : Word) : DWord := hi ++ lo

/-- The pair `d` with its `_LO` half replaced; the `_HI` half keeps its old value (70_reset_and_hazards.md R262). -/
def withLo (d : DWord) (lo : Word) : DWord := pairOf (hiHalf d) lo

/-- The pair `d` with its `_HI` half replaced; the `_LO` half keeps its old value (R262). -/
def withHi (d : DWord) (hi : Word) : DWord := pairOf hi (loHalf d)

/-- R9: `zext_64` of a byte result. -/
def zextByte (b : Byte) : DWord := b.setWidth 64

/-- R9: `zext_64` of a word result. -/
def zextWord (w : Word) : DWord := w.setWidth 64

end Sys2Proof.Machine
end

