-- ==== Sys2Proof/Config.lean ====
section
/-! DEFINITION. What a platform or an implementation fixes (00_scope.md R6) and the free values the spec leaves open
(93_implementation_defined.md U1, U2). -/

namespace Sys2Proof

/-- The platform parameters of R6, in a form that has no illegal value: `BASE = 0x20000 * baseIndex` is always a multiple
of 0x20000, and `DBUF_SIZE = 4 * (lastWord + 1)` is always a multiple of 4 in [4, 65536]. -/
structure Config where
  /-- BASE / 0x20000 (R6, U5). -/
  baseIndex : Nat
  /-- The index of the last word of the data buffer (R6, U6). -/
  lastWord : Fin 16384
deriving DecidableEq, Repr

/-- BASE: the host address of register offset 0 (R6). -/
def Config.base (c : Config) : Nat := 0x20000 * c.baseIndex

/-- DBUF_SIZE: the bytes in the data buffer (R6). -/
def Config.dbufSize (c : Config) : Nat := 4 * (c.lastWord.val + 1)

/-- DBUF_SIZE = 4096, the spec's default (R6). BASE has no default: 0 is a DESIGN CHOICE (log entry 6). -/
def Config.default : Config := { baseIndex := 0, lastWord := 1023 }

/-- FREE VALUE (U1, 10_state.md R52; log entry 4). The word that the n-th unspecified host read returns: a host read of a
register other than ID, CTRL, STATUS and CMD, or of DBUF, while BUSY = 1. It has no body: nothing can be proved of it. -/
opaque Config.busyRead : Nat → Word

/-- FREE VALUE (U2, 20_memory.md R78; log entry 5). The byte that offset `a` of DBUF holds after the n-th power-on, until it
is written: one draw per byte at power-on, fixed afterwards. It has no body: nothing can be proved of it. -/
opaque Config.powerOnByte (n a : Nat) : Byte

end Sys2Proof
end

