-- ==== Sys2Proof/Machine/State.lean ====
section
/-! DEFINITION. The state of the unit (10_state.md), the host traffic still to reach it and the answer the port gave last
(20_memory.md), the reasons a step can stop, and the state after power-on reset (70_reset_and_hazards.md R255). -/

namespace Sys2Proof.Machine

/-- The error codes of 60_exceptions.md R231. There is no seventh: "Codes 6 to 15 are never written". -/
inductive ErrCode where
  | ok | illegal | rsvd | operand | state | range
deriving DecidableEq, Repr

/-- ENGSTAT.STATE (R28). The field is WARL: the value 3 cannot be stored. -/
inductive EngState where
  | uninit | initializing | streaming
deriving DecidableEq, Repr

/-- CTRL (R25): its one implemented field. -/
structure Ctrl where
  irqEn : Bool
deriving DecidableEq, Repr

/-- STATUS (R26) but for BUSY, which is a view of PENDING (R47): BUSY = 1 exactly while a command word is latched. -/
structure Status where
  done : Bool
  err : Bool
  overrun : Bool
  errcode : ErrCode
  vok : Bool
deriving DecidableEq, Repr

/-- ENGSTAT (R28). -/
structure Engstat where
  state : EngState
  primed : Bool
  f9valid : Bool
deriving DecidableEq, Repr

/-- Four words under the indices 0..3: KEY0..KEY3 (R29), IV0..IV3 (R30), and the engine's key and IV (R160). -/
structure Quad where
  w0 : Word
  w1 : Word
  w2 : Word
  w3 : Word
deriving DecidableEq, Repr

/-- The operand registers (R29 to R37, R39): only the host and reset write them. A `_HI : _LO` pair is one doubleword. -/
structure OperandRegs where
  key : Quad
  iv : Quad
  count : Word
  /-- R32: bits 4:0 are implemented. -/
  bearer : BitVec 5
  /-- R33: bit 0 is implemented; 0 = UPLINK, 1 = DOWNLINK. -/
  direction : BitVec 1
  fresh : Word
  src : Word
  dst : Word
  len : DWord
  tag : Word
  opa : DWord
  opb : DWord
  opc : DWord
deriving DecidableEq, Repr

/-- The F9 context's registers (R42); its valid flag is ENGSTAT.F9VALID. -/
structure F9Regs where
  p : DWord
  q : DWord
  z5 : Word
deriving DecidableEq, Repr

/-- The LFSR (R44): exactly sixteen cells, S0 the oldest and S15 the newest. -/
structure Lfsr where
  s0 : Word
  s1 : Word
  s2 : Word
  s3 : Word
  s4 : Word
  s5 : Word
  s6 : Word
  s7 : Word
  s8 : Word
  s9 : Word
  s10 : Word
  s11 : Word
  s12 : Word
  s13 : Word
  s14 : Word
  s15 : Word
deriving DecidableEq, Repr

/-- The FSM (R45). -/
structure Fsm where
  r1 : Word
  r2 : Word
  r3 : Word
deriving DecidableEq, Repr

/-- The one SNOW 3G engine (R20): an LFSR and an FSM. -/
structure Engine where
  lfsr : Lfsr
  fsm : Fsm
deriving DecidableEq, Repr

/-- What can happen at the unit's pins and inside it, in the order it happens (R20, R60, R69; log entry 1). Addresses are the
host's, so the unit's window begins at BASE (R6). `size` is the access width in bits. -/
inductive HostEvent where
  /-- A host read. -/
  | read (addr size : Nat)
  /-- A host write of `data`. -/
  | write (addr size : Nat) (data : Word)
  /-- The unit takes its turn: the completion step of R66 where BUSY = 1, nothing where BUSY = 0. How many accesses stand
  between a CMD write and this event is the LATENCY draw of R6. -/
  | unitTurn
  /-- `rst_n` goes low: power-on reset (R255, R256). -/
  | powerReset
deriving DecidableEq, Repr

/-- The port's answer to one access (R60): read data, a write accepted on the bus, or `err = 1` (R63). -/
inductive Response where
  | data (w : Word)
  | accepted
  | busError
deriving DecidableEq, Repr

/-- Everything the unit holds (10_state.md), and the model's own five fields below. -/
structure State where
  /-- The platform parameters (R6). Nothing changes them. -/
  cfg : Config
  /-- CTRL (R25). -/
  ctrl : Ctrl
  /-- STATUS (R26), less BUSY. -/
  status : Status
  /-- PENDING (R47): the latched command word while BUSY = 1. -/
  pending : Option Word
  /-- ENGSTAT (R28). -/
  engstat : Engstat
  /-- The operand registers (R29 to R37, R39). -/
  opr : OperandRegs
  /-- MACI (R38). -/
  maci : Word
  /-- RES_HI : RES_LO (R40). -/
  res : DWord
  /-- EVAL_HI : EVAL_LO (R43). -/
  eval : DWord
  /-- FREG (R41). -/
  freg : Word
  /-- P, Q and Z5 (R42). -/
  f9 : F9Regs
  /-- S0..S15 (R44) and R1..R3 (R45). -/
  eng : Engine
  /-- DBUF (R46): the bytes written since power-on, by rising offset; an offset not listed holds its power-on draw. -/
  dbuf : List Host.Cell
  /-- THE MODEL'S OWN (log entry 1): the events still to come, oldest first. -/
  host : List HostEvent
  /-- THE MODEL'S OWN (log entry 10): the port's answer to the latest access. -/
  rsp : Option Response
  /-- THE MODEL'S OWN (log entry 4): how many unspecified host reads have been answered, the index of the next draw. -/
  draws : Nat
  /-- THE MODEL'S OWN (log entry 5): how many power-on resets there have been, the index of DBUF's power-on draws. -/
  powerCycle : Nat
deriving DecidableEq, Repr

/-- Why a step stops with a fault. -/
inductive Fault where
  /-- Raised by a host event whose address is outside [BASE, BASE + 0x20000): no register and no DBUF byte of this unit is
  there, and no request reaches its port (R61). Safe: the model stops where the platform would route the access elsewhere. -/
  | outsideWindow (addr : Nat)
deriving DecidableEq, Repr

/-- Why a step is refused. -/
inductive Refusal where
  /-- Raised by an arm of exec that has no meaning yet. Safe: the model stops. No arm raises it now. -/
  | notModelled (mnemonic : String)
deriving DecidableEq, Repr

/-- Four zero words. -/
def Quad.zero : Quad := { w0 := 0, w1 := 0, w2 := 0, w3 := 0 }

/-- The all-zero engine of reset (R255, R257). -/
def Engine.zero : Engine :=
  { lfsr := { s0 := 0, s1 := 0, s2 := 0, s3 := 0, s4 := 0, s5 := 0, s6 := 0, s7 := 0,
              s8 := 0, s9 := 0, s10 := 0, s11 := 0, s12 := 0, s13 := 0, s14 := 0, s15 := 0 },
    fsm := { r1 := 0, r2 := 0, r3 := 0 } }

/-- R255: the operand registers after reset. -/
def OperandRegs.reset : OperandRegs :=
  { key := Quad.zero, iv := Quad.zero, count := 0, bearer := 0, direction := 0, fresh := 0, src := 0, dst := 0, len := 0,
    tag := 0, opa := 0, opb := 0, opc := 0 }

/-- R255: STATUS = 0. -/
def Status.reset : Status := { done := false, err := false, overrun := false, errcode := .ok, vok := false }

/-- R255: every register at its reset value, no command pending, DBUF with no byte written. The platform has the default
parameters (R6, log entry 6) and the host has nothing to do (log entry 1). -/
def State.reset : State :=
  { cfg := Config.default, ctrl := { irqEn := false }, status := Status.reset, pending := none,
    engstat := { state := .uninit, primed := false, f9valid := false }, opr := OperandRegs.reset, maci := 0, res := 0,
    eval := 0, freg := 0, f9 := { p := 0, q := 0, z5 := 0 }, eng := Engine.zero, dbuf := [], host := [], rsp := none,
    draws := 0, powerCycle := 0 }

end Sys2Proof.Machine
end

