-- ==== Sys2Proof/Machine/Ops.lean ====
section
/-! DEFINITION. The named operations over the data buffer and over the command protocol: reading and writing DBUF
(00_scope.md R10, 20_memory.md R75), latching, fetching and completing a command (R66), raising an error
(60_exceptions.md R231, R233) and acknowledging one (R241), and the two resets (70_reset_and_hazards.md R255). -/

namespace Sys2Proof.Machine

/-! ### The data buffer -/

/-- The byte last written at offset `a` since power-on, if any. This is the ONE definition of what an unlisted offset reads
as: no written value. -/
def cellAt (a : Nat) : List Host.Cell → Option Byte
  | [] => none
  | (a', b) :: m => if a = a' then some b else cellAt a m

/-- One byte written at offset `a`: an entry in its place by rising offset, replacing the entry that stood there. -/
def setCell (a : Nat) (b : Byte) : List Host.Cell → List Host.Cell
  | [] => [(a, b)]
  | (a', b') :: m =>
    if a < a' then (a, b) :: (a', b') :: m
    else if a = a' then (a, b) :: m
    else (a', b') :: setCell a b m

/-- The bytes of a list written from offset `a` on. -/
def setCells (a : Nat) : List Byte → List Host.Cell → List Host.Cell
  | [], m => m
  | b :: bs, m => setCells (a + 1) bs (setCell a b m)

/-- Every offset listed is at least `lo`, the offsets rise strictly, and all are below `size`. -/
def cellsFrom (lo size : Nat) : List Host.Cell → Bool
  | [] => true
  | (a, _) :: m => decide (lo ≤ a) && decide (a < size) && cellsFrom (a + 1) size m

/-- The canonical form of a data buffer of `size` bytes: offsets strictly rising and below `size`. No entry equals what an
unlisted offset reads as, since that is "no written value" (log entry 5). -/
def Memory.wf (size : Nat) (m : List Host.Cell) : Bool := cellsFrom 0 size m

/-- DBUF[a]: the byte written there, or the power-on draw where none was (R78). -/
def dbufByte (s : State) (a : Nat) : Byte := (cellAt a s.dbuf).getD (Config.powerOnByte s.powerCycle a)

/-- R10 `MemRead(a, n)`: the bytes DBUF[a], ..., DBUF[a+n-1]. -/
def memRead (s : State) (a : Nat) : Nat → List Byte
  | 0 => []
  | n + 1 => dbufByte s a :: memRead s (a + 1) n

/-- R10 `MemWrite(a, n, bs)`: the bytes of `bs` to DBUF from `a` on. -/
def memWrite (a : Nat) (bs : List Byte) (s : State) : State := { s with dbuf := setCells a bs s.dbuf }

/-- R75 `InRange(a, n)`, over the mathematical integers. -/
def inRange (s : State) (a n : Nat) : Bool := decide (a + n ≤ s.cfg.dbufSize)

/-! ### Commands: issue, fetch, completion -/

/-- STATUS.BUSY (R26, R47): a command word is latched. -/
def busy (s : State) : Bool := s.pending.isSome

/-- R66: an accepted CMD write, `PENDING <- w; BUSY <- 1; DONE <- 0`. -/
def issueCommand (w : Word) (s : State) : State :=
  { s with pending := some w, status := { s.status with done := false } }

/-- The unit's "fetch" (20_memory.md R72): the latched command word, while BUSY = 1. -/
def fetchCommand (s : State) : Option Word := s.pending

/-- R66: the end of the completion step with error code `code`:
`ERRCODE <- code; if code != 0 then ERR <- 1; BUSY <- 0; DONE <- 1`. PENDING is consumed (R47). -/
def complete (code : ErrCode) (s : State) : State :=
  { s with
    status := { s.status with errcode := code, err := s.status.err || decide (code ≠ .ok), done := true }
    pending := none }

/-- A command that succeeded: its effect `s`, then a completion with code 0 (R66). -/
def finish (s : State) : Host.Outcome State Fault Refusal := .next (complete .ok s)

/-- TAKING AN ERROR (R10 `raise Error(code)`, R233): the command ends with `code`, and nothing but STATUS changes, `s` being
the state the command started in. The unit has no vector and no saved registers (R242). -/
def raiseError (code : ErrCode) (s : State) : Host.Outcome State Fault Refusal := .next (complete code s)

/-- RETURNING FROM ONE (R224, R241): the host's W1C write of `data` to STATUS. A 1 in bit 1, 2 or 3 clears DONE, ERR or
OVERRUN; every other bit of STATUS keeps its value. -/
def acknowledge (data : Word) (s : State) : State :=
  { s with status :=
    { s.status with
      done := s.status.done && !data.getLsbD 1
      err := s.status.err && !data.getLsbD 2
      overrun := s.status.overrun && !data.getLsbD 3 } }

/-- R68: a host write dropped because BUSY = 1 leaves its mark in STATUS.OVERRUN. -/
def setOverrun (s : State) : State := { s with status := { s.status with overrun := true } }

/-! ### Reset -/

/-- R222: every register of the register map, except ID, at its reset value (R255). DBUF is not changed, and the pending
command is left for its completion to consume. -/
def resetRegisters (s : State) : State :=
  { s with
    ctrl := State.reset.ctrl
    status := State.reset.status
    engstat := State.reset.engstat
    opr := State.reset.opr
    maci := State.reset.maci
    res := State.reset.res
    eval := State.reset.eval
    freg := State.reset.freg
    f9 := State.reset.f9
    eng := State.reset.eng }

/-- R255, R256: power-on reset. As `resetRegisters`, and a pending command is discarded, and every DBUF byte takes a fresh
power-on draw (U2). -/
def powerOn (s : State) : State :=
  { resetRegisters s with pending := none, dbuf := [], rsp := none, powerCycle := s.powerCycle + 1 }

end Sys2Proof.Machine
end

