-- ==== Sys2Proof/Machine/Flags.lean ====
section
/-! DEFINITION. CTRL, STATUS and ENGSTAT as the words the host reads and writes (10_state.md R25, R26, R28), and the
interrupt output (60_exceptions.md R240). -/

namespace Sys2Proof.Machine

/-- R231: the number of an error code. -/
def ErrCode.code : ErrCode → BitVec 4
  | .ok => 0
  | .illegal => 1
  | .rsvd => 2
  | .operand => 3
  | .state => 4
  | .range => 5

/-- R28: the number of a lifecycle state. -/
def EngState.code : EngState → BitVec 2
  | .uninit => 0
  | .initializing => 1
  | .streaming => 2

/-- R23, R28: ENGSTAT.STATE is WARL, so writing 3 leaves the old state. -/
def engStateWarl (old : EngState) (field : BitVec 2) : EngState :=
  if field = 0 then .uninit else if field = 1 then .initializing else if field = 2 then .streaming else old

/-- R25: CTRL as a word. -/
def ctrlWord (s : State) : Word := 0#31 ++ BitVec.ofBool s.ctrl.irqEn

/-- R25: a host write of CTRL stores bit 0. -/
def writeCtrl (data : Word) (s : State) : State := { s with ctrl := { irqEn := data.getLsbD 0 } }

/-- R26: STATUS as a word: VOK in bit 8, ERRCODE in bits 7:4, OVERRUN, ERR, DONE and BUSY in bits 3 to 0. -/
def statusWord (s : State) : Word :=
  0#23 ++ BitVec.ofBool s.status.vok ++ s.status.errcode.code ++ BitVec.ofBool s.status.overrun ++
    BitVec.ofBool s.status.err ++ BitVec.ofBool s.status.done ++ BitVec.ofBool (busy s)

/-- R28: ENGSTAT as a word: F9VALID in bit 3, PRIMED in bit 2, STATE in bits 1:0. -/
def engstatWord (s : State) : Word :=
  0#28 ++ BitVec.ofBool s.engstat.f9valid ++ BitVec.ofBool s.engstat.primed ++ s.engstat.state.code

/-- R28: a host write of ENGSTAT. -/
def writeEngstat (data : Word) (s : State) : State :=
  { s with engstat :=
    { state := engStateWarl s.engstat.state (BitVec.extractLsb' 0 2 data)
      primed := data.getLsbD 2
      f9valid := data.getLsbD 3 } }

/-- R240: the interrupt output, `CTRL.IRQ_EN & (STATUS.DONE | STATUS.ERR)`. It is computed, not stored (R47). -/
def irq (s : State) : Bool := s.ctrl.irqEn && (s.status.done || s.status.err)

end Sys2Proof.Machine
end

