-- ==== Sys2Proof/Machine/Registers.lean ====
section
/-! DEFINITION. The register map (10_state.md R22): every register under its own name and offset, and what a host read
returns and a host write does to it while BUSY = 0 (R23 to R45). -/

namespace Sys2Proof.Machine

/-- The registers of R22. -/
inductive Reg where
  | id | ctrl | status | cmd | engstat
  | key0 | key1 | key2 | key3 | iv0 | iv1 | iv2 | iv3
  | count | bearer | direction | fresh | src | dst | lenLo | lenHi | tag | maci
  | opaLo | opaHi | opbLo | opbHi | opcLo | opcHi | resLo | resHi | freg | z5
  | pLo | pHi | qLo | qHi | evalLo | evalHi
  | s0 | s1 | s2 | s3 | s4 | s5 | s6 | s7 | s8 | s9 | s10 | s11 | s12 | s13 | s14 | s15
  | r1 | r2 | r3
deriving DecidableEq, Repr

/-- R22: the byte offset of a register from BASE. -/
def regOffset : Reg → Nat
  | .id => 0x000
  | .ctrl => 0x004
  | .status => 0x008
  | .cmd => 0x00C
  | .engstat => 0x010
  | .key0 => 0x020
  | .key1 => 0x024
  | .key2 => 0x028
  | .key3 => 0x02C
  | .iv0 => 0x030
  | .iv1 => 0x034
  | .iv2 => 0x038
  | .iv3 => 0x03C
  | .count => 0x040
  | .bearer => 0x044
  | .direction => 0x048
  | .fresh => 0x04C
  | .src => 0x050
  | .dst => 0x054
  | .lenLo => 0x058
  | .lenHi => 0x05C
  | .tag => 0x060
  | .maci => 0x064
  | .opaLo => 0x070
  | .opaHi => 0x074
  | .opbLo => 0x078
  | .opbHi => 0x07C
  | .opcLo => 0x080
  | .opcHi => 0x084
  | .resLo => 0x088
  | .resHi => 0x08C
  | .freg => 0x090
  | .z5 => 0x094
  | .pLo => 0x098
  | .pHi => 0x09C
  | .qLo => 0x0A0
  | .qHi => 0x0A4
  | .evalLo => 0x0A8
  | .evalHi => 0x0AC
  | .s0 => 0x100
  | .s1 => 0x104
  | .s2 => 0x108
  | .s3 => 0x10C
  | .s4 => 0x110
  | .s5 => 0x114
  | .s6 => 0x118
  | .s7 => 0x11C
  | .s8 => 0x120
  | .s9 => 0x124
  | .s10 => 0x128
  | .s11 => 0x12C
  | .s12 => 0x130
  | .s13 => 0x134
  | .s14 => 0x138
  | .s15 => 0x13C
  | .r1 => 0x140
  | .r2 => 0x144
  | .r3 => 0x148

/-- The control, status, operand and result registers, in the order of the map. -/
def frontRegs : List Reg :=
  [.id, .ctrl, .status, .cmd, .engstat, .key0, .key1, .key2, .key3, .iv0, .iv1, .iv2, .iv3,
   .count, .bearer, .direction, .fresh, .src, .dst, .lenLo, .lenHi, .tag, .maci,
   .opaLo, .opaHi, .opbLo, .opbHi, .opcLo, .opcHi, .resLo, .resHi, .freg, .z5,
   .pLo, .pHi, .qLo, .qHi, .evalLo, .evalHi]

/-- The engine's registers, in the order of the map. -/
def engineRegs : List Reg :=
  [.s0, .s1, .s2, .s3, .s4, .s5, .s6, .s7, .s8, .s9, .s10, .s11, .s12, .s13, .s14, .s15, .r1, .r2, .r3]

/-- Every register. -/
def allRegs : List Reg := frontRegs ++ engineRegs

/-- The register at an offset of the register window, if one is there (R22, R50). -/
def regAt (off : Nat) : Option Reg := allRegs.find? fun r => regOffset r == off

/-- R24: the identification constant. -/
def idValue : Word := 0x534E3347#32

/-- What a host read of a register returns (R23): the stored value, with unimplemented bits 0; CMD reads 0 (R27). No read has
a side effect (20_memory.md R74). -/
def readReg (r : Reg) (s : State) : Word :=
  match r with
  | .id => idValue
  | .ctrl => ctrlWord s
  | .status => statusWord s
  | .cmd => 0
  | .engstat => engstatWord s
  | .key0 => s.opr.key.w0
  | .key1 => s.opr.key.w1
  | .key2 => s.opr.key.w2
  | .key3 => s.opr.key.w3
  | .iv0 => s.opr.iv.w0
  | .iv1 => s.opr.iv.w1
  | .iv2 => s.opr.iv.w2
  | .iv3 => s.opr.iv.w3
  | .count => s.opr.count
  | .bearer => s.opr.bearer.setWidth 32
  | .direction => s.opr.direction.setWidth 32
  | .fresh => s.opr.fresh
  | .src => s.opr.src
  | .dst => s.opr.dst
  | .lenLo => loHalf s.opr.len
  | .lenHi => hiHalf s.opr.len
  | .tag => s.opr.tag
  | .maci => s.maci
  | .opaLo => loHalf s.opr.opa
  | .opaHi => hiHalf s.opr.opa
  | .opbLo => loHalf s.opr.opb
  | .opbHi => hiHalf s.opr.opb
  | .opcLo => loHalf s.opr.opc
  | .opcHi => hiHalf s.opr.opc
  | .resLo => loHalf s.res
  | .resHi => hiHalf s.res
  | .freg => s.freg
  | .z5 => s.f9.z5
  | .pLo => loHalf s.f9.p
  | .pHi => hiHalf s.f9.p
  | .qLo => loHalf s.f9.q
  | .qHi => hiHalf s.f9.q
  | .evalLo => loHalf s.eval
  | .evalHi => hiHalf s.eval
  | .s0 => s.eng.lfsr.s0
  | .s1 => s.eng.lfsr.s1
  | .s2 => s.eng.lfsr.s2
  | .s3 => s.eng.lfsr.s3
  | .s4 => s.eng.lfsr.s4
  | .s5 => s.eng.lfsr.s5
  | .s6 => s.eng.lfsr.s6
  | .s7 => s.eng.lfsr.s7
  | .s8 => s.eng.lfsr.s8
  | .s9 => s.eng.lfsr.s9
  | .s10 => s.eng.lfsr.s10
  | .s11 => s.eng.lfsr.s11
  | .s12 => s.eng.lfsr.s12
  | .s13 => s.eng.lfsr.s13
  | .s14 => s.eng.lfsr.s14
  | .s15 => s.eng.lfsr.s15
  | .r1 => s.eng.fsm.r1
  | .r2 => s.eng.fsm.r2
  | .r3 => s.eng.fsm.r3

/-- What a host write of `w` to a register does while BUSY = 0 (R23): an RW register stores the implemented bits, an RO
register ignores the write, STATUS takes it as W1C, ENGSTAT.STATE as WARL, and CMD issues the command (R66). -/
def writeReg (r : Reg) (w : Word) (s : State) : State :=
  match r with
  | .id => s
  | .ctrl => writeCtrl w s
  | .status => acknowledge w s
  | .cmd => issueCommand w s
  | .engstat => writeEngstat w s
  | .key0 => { s with opr := { s.opr with key := { s.opr.key with w0 := w } } }
  | .key1 => { s with opr := { s.opr with key := { s.opr.key with w1 := w } } }
  | .key2 => { s with opr := { s.opr with key := { s.opr.key with w2 := w } } }
  | .key3 => { s with opr := { s.opr with key := { s.opr.key with w3 := w } } }
  | .iv0 => { s with opr := { s.opr with iv := { s.opr.iv with w0 := w } } }
  | .iv1 => { s with opr := { s.opr with iv := { s.opr.iv with w1 := w } } }
  | .iv2 => { s with opr := { s.opr with iv := { s.opr.iv with w2 := w } } }
  | .iv3 => { s with opr := { s.opr with iv := { s.opr.iv with w3 := w } } }
  | .count => { s with opr := { s.opr with count := w } }
  | .bearer => { s with opr := { s.opr with bearer := w.setWidth 5 } }
  | .direction => { s with opr := { s.opr with direction := w.setWidth 1 } }
  | .fresh => { s with opr := { s.opr with fresh := w } }
  | .src => { s with opr := { s.opr with src := w } }
  | .dst => { s with opr := { s.opr with dst := w } }
  | .lenLo => { s with opr := { s.opr with len := withLo s.opr.len w } }
  | .lenHi => { s with opr := { s.opr with len := withHi s.opr.len w } }
  | .tag => { s with opr := { s.opr with tag := w } }
  | .maci => s
  | .opaLo => { s with opr := { s.opr with opa := withLo s.opr.opa w } }
  | .opaHi => { s with opr := { s.opr with opa := withHi s.opr.opa w } }
  | .opbLo => { s with opr := { s.opr with opb := withLo s.opr.opb w } }
  | .opbHi => { s with opr := { s.opr with opb := withHi s.opr.opb w } }
  | .opcLo => { s with opr := { s.opr with opc := withLo s.opr.opc w } }
  | .opcHi => { s with opr := { s.opr with opc := withHi s.opr.opc w } }
  | .resLo => s
  | .resHi => s
  | .freg => { s with freg := w }
  | .z5 => { s with f9 := { s.f9 with z5 := w } }
  | .pLo => { s with f9 := { s.f9 with p := withLo s.f9.p w } }
  | .pHi => { s with f9 := { s.f9 with p := withHi s.f9.p w } }
  | .qLo => { s with f9 := { s.f9 with q := withLo s.f9.q w } }
  | .qHi => { s with f9 := { s.f9 with q := withHi s.f9.q w } }
  | .evalLo => s
  | .evalHi => s
  | .s0 => { s with eng := { s.eng with lfsr := { s.eng.lfsr with s0 := w } } }
  | .s1 => { s with eng := { s.eng with lfsr := { s.eng.lfsr with s1 := w } } }
  | .s2 => { s with eng := { s.eng with lfsr := { s.eng.lfsr with s2 := w } } }
  | .s3 => { s with eng := { s.eng with lfsr := { s.eng.lfsr with s3 := w } } }
  | .s4 => { s with eng := { s.eng with lfsr := { s.eng.lfsr with s4 := w } } }
  | .s5 => { s with eng := { s.eng with lfsr := { s.eng.lfsr with s5 := w } } }
  | .s6 => { s with eng := { s.eng with lfsr := { s.eng.lfsr with s6 := w } } }
  | .s7 => { s with eng := { s.eng with lfsr := { s.eng.lfsr with s7 := w } } }
  | .s8 => { s with eng := { s.eng with lfsr := { s.eng.lfsr with s8 := w } } }
  | .s9 => { s with eng := { s.eng with lfsr := { s.eng.lfsr with s9 := w } } }
  | .s10 => { s with eng := { s.eng with lfsr := { s.eng.lfsr with s10 := w } } }
  | .s11 => { s with eng := { s.eng with lfsr := { s.eng.lfsr with s11 := w } } }
  | .s12 => { s with eng := { s.eng with lfsr := { s.eng.lfsr with s12 := w } } }
  | .s13 => { s with eng := { s.eng with lfsr := { s.eng.lfsr with s13 := w } } }
  | .s14 => { s with eng := { s.eng with lfsr := { s.eng.lfsr with s14 := w } } }
  | .s15 => { s with eng := { s.eng with lfsr := { s.eng.lfsr with s15 := w } } }
  | .r1 => { s with eng := { s.eng with fsm := { s.eng.fsm with r1 := w } } }
  | .r2 => { s with eng := { s.eng with fsm := { s.eng.fsm with r2 := w } } }
  | .r3 => { s with eng := { s.eng with fsm := { s.eng.fsm with r3 := w } } }

/-- R52: the registers a host may read while BUSY = 1. -/
def readableWhileBusy (r : Reg) : Bool := r = .id || r = .ctrl || r = .status || r = .cmd

/-- R68: the registers a host may write while BUSY = 1. -/
def writableWhileBusy (r : Reg) : Bool := r = .ctrl || r = .status

end Sys2Proof.Machine
end

