-- ==== Sys2Proof/Machine/Bus.lean ====
section
/-! DEFINITION. The host port (20_memory.md): which register or DBUF word an offset names, and what one host read or write
does (R60 to R68, 10_state.md R50 and R52). -/

namespace Sys2Proof.Machine

/-- R61: what lies at an offset from BASE. -/
inductive Target where
  | reg (r : Reg)
  | dbufWord (j : Nat)
  | reserved
deriving DecidableEq, Repr

/-- R61: the bytes the unit's window spans. -/
def windowSize : Nat := 0x20000

/-- R61: the offset of the DBUF window. -/
def dbufWindow : Nat := 0x10000

/-- The offset from BASE of a host address in the unit's window (R6, R61); none for an address outside it. -/
def busOffset (c : Config) (addr : Nat) : Option Nat :=
  if c.base ≤ addr ∧ addr < c.base + windowSize then some (addr - c.base) else none

/-- R61: the address map. -/
def targetOf (c : Config) (off : Nat) : Target :=
  if off < dbufWindow then
    match regAt off with
    | some r => .reg r
    | none => .reserved
  else if off < dbufWindow + c.dbufSize then .dbufWord ((off - dbufWindow) / 4)
  else .reserved

/-- R63: an access the port takes: 32 bits wide at an offset that is a multiple of 4. -/
def goodAccess (off size : Nat) : Bool := decide (size = 32) && decide (off % 4 = 0)

/-- R62: DBUF word `j`, bytes 4j..4j+3 packed big-endian. -/
def dbufWord (s : State) (j : Nat) : Word :=
  be32 (dbufByte s (4 * j)) (dbufByte s (4 * j + 1)) (dbufByte s (4 * j + 2)) (dbufByte s (4 * j + 3))

/-- R62: a host write of DBUF word `j`. -/
def writeDbufWord (j : Nat) (w : Word) (s : State) : State := memWrite (4 * j) (wordBytes w) s

/-- The port's answer to the access in hand. -/
def respond (r : Response) (s : State) : State := { s with rsp := some r }

/-- R52, U1: a host read while BUSY = 1 that the unit leaves open returns a fresh draw. -/
def respondOpen (s : State) : State := { respond (.data (Config.busyRead s.draws)) s with draws := s.draws + 1 }

/-- A host read at an offset from BASE. -/
def hostRead (off size : Nat) (s : State) : State :=
  if !goodAccess off size then respond .busError s
  else
    match targetOf s.cfg off with
    | .reg r => if busy s && !readableWhileBusy r then respondOpen s else respond (.data (readReg r s)) s
    | .dbufWord j => if busy s then respondOpen s else respond (.data (dbufWord s j)) s
    | .reserved => respond (.data 0) s

/-- A host write at an offset from BASE. While BUSY = 1 every write but those of CTRL and STATUS is dropped and sets OVERRUN
(R68; for a reserved offset, log entry 9). -/
def hostWrite (off size : Nat) (w : Word) (s : State) : State :=
  if !goodAccess off size then respond .busError s
  else
    match targetOf s.cfg off with
    | .reg r => respond .accepted (if busy s && !writableWhileBusy r then setOverrun s else writeReg r w s)
    | .dbufWord j => respond .accepted (if busy s then setOverrun s else writeDbufWord j w s)
    | .reserved => respond .accepted (if busy s then setOverrun s else s)

end Sys2Proof.Machine
end

