-- ==== Sys2Proof/Syntax.lean ====
section
/-! DEFINITION. The commands of CORE-CMD version 1: one constructor per row of spec/opcode_table.json (30_encoding.md R89).
Operands are the numbers an assembler line writes (R93), in the order of that syntax; Sys2Proof/WellFormed.lean says which
of them fit their fields. -/

namespace Sys2Proof

/-- A command with its command-word operands (R88, R89, R93). -/
inductive Instr where
  /-- 0x00 NOP (45_control.md R220). -/
  | nop
  /-- 0x01 SRESET (R222). -/
  | sreset
  /-- 0x10 MULX v, c (40_field_arith.md R112). -/
  | mulx (v c : Nat)
  /-- 0x11 MULXPOW v, c, i (R114). -/
  | mulxpow (v c i : Nat)
  /-- 0x12 MULALPHA v (R116). -/
  | mulalpha (v : Nat)
  /-- 0x13 DIVALPHA v (R118). -/
  | divalpha (v : Nat)
  /-- 0x14 MASK8 n (R126). -/
  | mask8 (n : Nat)
  /-- 0x18 MUL64X (R120). -/
  | mul64x
  /-- 0x19 MUL64XPOW i (R122). -/
  | mul64xpow (i : Nat)
  /-- 0x1A MUL64 (R124). -/
  | mul64
  /-- 0x20 SBOX1 (41_sbox_fsm.md R143). -/
  | sbox1
  /-- 0x21 SBOX2 (R144). -/
  | sbox2
  /-- 0x22 FSM_CLK (R147). -/
  | fsmClk
  /-- 0x28 LFSR_CLK_INIT (42_lfsr_engine.md R159). -/
  | lfsrClkInit
  /-- 0x29 LFSR_CLK_KS (R158). -/
  | lfsrClkKs
  /-- 0x30 ENG_LOAD (R163). -/
  | engLoad
  /-- 0x31 ENG_INIT (R166). -/
  | engInit
  /-- 0x32 KS_WORD (R171). -/
  | ksWord
  /-- 0x33 KS_GEN n (R173). -/
  | ksGen (n : Nat)
  /-- 0x40 F8_SETUP (43_f8.md R187). -/
  | f8Setup
  /-- 0x41 F8 (R191). -/
  | f8
  /-- 0x48 F9_SETUP (44_f9.md R203). -/
  | f9Setup
  /-- 0x49 F9_HASH (R208). -/
  | f9Hash
  /-- 0x4A F9_VERIFY (R210). -/
  | f9Verify
deriving DecidableEq, Repr

end Sys2Proof
end

