-- ==== Sys2Proof/WellFormed.lean ====
section
/-! DEFINITION. Which commands have an encoding: every operand fits its field (30_encoding.md R86, R93). A field value that
does not fit is refused by the assembler (93_implementation_defined.md U9); the command's own range checks (MASK8's N,
F8's LEN_HI) are not made here but when it runs (R90). -/

namespace Sys2Proof

/-- A number that fits an 8-bit field: V, C, I, or MASK8's N. -/
def fitsByte (x : Nat) : Bool := decide (x ≤ 255)

/-- A number that fits the 16-bit N field of KS_GEN. -/
def fitsCount (x : Nat) : Bool := decide (x ≤ 65535)

/-- Every operand of the command fits its field. -/
def Instr.wf : Instr → Bool
  | .nop => true
  | .sreset => true
  | .mulx v c => fitsByte v && fitsByte c
  | .mulxpow v c i => fitsByte v && fitsByte c && fitsByte i
  | .mulalpha v => fitsByte v
  | .divalpha v => fitsByte v
  | .mask8 n => fitsByte n
  | .mul64x => true
  | .mul64xpow i => fitsByte i
  | .mul64 => true
  | .sbox1 => true
  | .sbox2 => true
  | .fsmClk => true
  | .lfsrClkInit => true
  | .lfsrClkKs => true
  | .engLoad => true
  | .engInit => true
  | .ksWord => true
  | .ksGen n => fitsCount n
  | .f8Setup => true
  | .f8 => true
  | .f9Setup => true
  | .f9Hash => true
  | .f9Verify => true

end Sys2Proof
end

