-- ==== Sys2Proof/Decode.lean ====
section
/-! DEFINITION. Decoding of a command word, total on all 2^32 words and rejecting by name (30_encoding.md R85 to R91), and
after it the encoder and the assembler written from the same tables (R86, R93). -/

namespace Sys2Proof

/-- The five formats of R86. -/
inductive Format where
  | n | bc | bci | b8 | cnt
deriving DecidableEq, Repr

/-- Why a command word selects no command (R90): its opcode is unassigned, or a reserved bit of its format is set. -/
inductive DecodeError where
  /-- OP is not in the table of R89. -/
  | illegal
  /-- A bit that R86 reserves in the command's format is 1. -/
  | reserved
deriving DecidableEq, Repr

/-- R86: the bits of a command word that must be 0 in each format. -/
def rsvdMask : Format → Word
  | .n => 0x00FFFFFF#32
  | .bc => 0x00FF0000#32
  | .bci => 0x00000000#32
  | .b8 => 0x00FFFF00#32
  | .cnt => 0x00FF0000#32

/-- R7: the field `w[lo+len-1 : lo]` as an unsigned number. -/
def wordField (w : Word) (lo len : Nat) : Nat := (BitVec.extractLsb' lo len w).toNat

/-- R85: the opcode, bits 31:24. -/
def fieldOp (w : Word) : Nat := wordField w 24 8

/-- R87: bits 7:0, the V field of BC, BCI and B8, and the N or I field of B8. -/
def fieldLow (w : Word) : Nat := wordField w 0 8

/-- R87: bits 15:8, the C field of BC and BCI. -/
def fieldC (w : Word) : Nat := wordField w 8 8

/-- R87: bits 23:16, the I field of BCI. -/
def fieldI (w : Word) : Nat := wordField w 16 8

/-- R87: bits 15:0, the N field of CNT. -/
def fieldCount (w : Word) : Nat := wordField w 0 16

/-- The table of R89: the format of an assigned opcode and the command its word selects, with the fields of R87. -/
def opcodeRow (w : Word) : Option (Format × Instr) :=
  match fieldOp w with
  | 0x00 => some (.n, .nop)
  | 0x01 => some (.n, .sreset)
  | 0x10 => some (.bc, .mulx (fieldLow w) (fieldC w))
  | 0x11 => some (.bci, .mulxpow (fieldLow w) (fieldC w) (fieldI w))
  | 0x12 => some (.b8, .mulalpha (fieldLow w))
  | 0x13 => some (.b8, .divalpha (fieldLow w))
  | 0x14 => some (.b8, .mask8 (fieldLow w))
  | 0x18 => some (.n, .mul64x)
  | 0x19 => some (.b8, .mul64xpow (fieldLow w))
  | 0x1A => some (.n, .mul64)
  | 0x20 => some (.n, .sbox1)
  | 0x21 => some (.n, .sbox2)
  | 0x22 => some (.n, .fsmClk)
  | 0x28 => some (.n, .lfsrClkInit)
  | 0x29 => some (.n, .lfsrClkKs)
  | 0x30 => some (.n, .engLoad)
  | 0x31 => some (.n, .engInit)
  | 0x32 => some (.n, .ksWord)
  | 0x33 => some (.cnt, .ksGen (fieldCount w))
  | 0x40 => some (.n, .f8Setup)
  | 0x41 => some (.n, .f8)
  | 0x48 => some (.n, .f9Setup)
  | 0x49 => some (.n, .f9Hash)
  | 0x4A => some (.n, .f9Verify)
  | _ => none

/-- R90: the decoder. Every word selects exactly one of "unassigned opcode", "reserved bits set" or one command. -/
def decode (w : Word) : Except DecodeError Instr :=
  match opcodeRow w with
  | none => .error .illegal
  | some (fmt, i) => if w &&& rsvdMask fmt = 0#32 then .ok i else .error .reserved

/-- The command that the table row's bits `w` (of `nbits` bits, every bit above them 0) decode to; none where the decoder
refuses the word. A command is one 32-bit word (R85), so a word wider than that selects nothing. -/
def decodeTableWord (nbits w : Nat) : Option Instr :=
  if w % 2 ^ nbits < 2 ^ 32 then (decode (BitVec.ofNat 32 (w % 2 ^ nbits))).toOption else none

/-- R86, R93: a command word from its opcode and the number its bits 23:0 hold. -/
def packWord (op operands : Nat) : Word := BitVec.ofNat 32 (op * 2 ^ 24 + operands)

/-- R93: the word of a command. It is the command's word where the operands fit their fields (`Instr.wf`). -/
def encode : Instr → Word
  | .nop => packWord 0x00 0
  | .sreset => packWord 0x01 0
  | .mulx v c => packWord 0x10 (c * 2 ^ 8 + v)
  | .mulxpow v c i => packWord 0x11 (i * 2 ^ 16 + c * 2 ^ 8 + v)
  | .mulalpha v => packWord 0x12 v
  | .divalpha v => packWord 0x13 v
  | .mask8 n => packWord 0x14 n
  | .mul64x => packWord 0x18 0
  | .mul64xpow i => packWord 0x19 i
  | .mul64 => packWord 0x1A 0
  | .sbox1 => packWord 0x20 0
  | .sbox2 => packWord 0x21 0
  | .fsmClk => packWord 0x22 0
  | .lfsrClkInit => packWord 0x28 0
  | .lfsrClkKs => packWord 0x29 0
  | .engLoad => packWord 0x30 0
  | .engInit => packWord 0x31 0
  | .ksWord => packWord 0x32 0
  | .ksGen n => packWord 0x33 n
  | .f8Setup => packWord 0x40 0
  | .f8 => packWord 0x41 0
  | .f9Setup => packWord 0x48 0
  | .f9Hash => packWord 0x49 0
  | .f9Verify => packWord 0x4A 0

/-- R93: the command an assembler line names: its mnemonic and its operands in the order of the syntax. -/
def parseCommand (mnemonic : String) (operands : List Nat) : Option Instr :=
  match mnemonic, operands with
  | "NOP", [] => some .nop
  | "SRESET", [] => some .sreset
  | "MULX", [v, c] => some (.mulx v c)
  | "MULXPOW", [v, c, i] => some (.mulxpow v c i)
  | "MULALPHA", [v] => some (.mulalpha v)
  | "DIVALPHA", [v] => some (.divalpha v)
  | "MASK8", [n] => some (.mask8 n)
  | "MUL64X", [] => some .mul64x
  | "MUL64XPOW", [i] => some (.mul64xpow i)
  | "MUL64", [] => some .mul64
  | "SBOX1", [] => some .sbox1
  | "SBOX2", [] => some .sbox2
  | "FSM_CLK", [] => some .fsmClk
  | "LFSR_CLK_INIT", [] => some .lfsrClkInit
  | "LFSR_CLK_KS", [] => some .lfsrClkKs
  | "ENG_LOAD", [] => some .engLoad
  | "ENG_INIT", [] => some .engInit
  | "KS_WORD", [] => some .ksWord
  | "KS_GEN", [n] => some (.ksGen n)
  | "F8_SETUP", [] => some .f8Setup
  | "F8", [] => some .f8
  | "F9_SETUP", [] => some .f9Setup
  | "F9_HASH", [] => some .f9Hash
  | "F9_VERIFY", [] => some .f9Verify
  | _, _ => none

/-- R93, U9: the assembler. It refuses a line whose mnemonic or operand count is not in the syntax, and a field value that
does not fit its field. -/
def assemble (mnemonic : String) (operands : List Nat) : Option Word :=
  match parseCommand mnemonic operands with
  | some i => if i.wf then some (encode i) else none
  | none => none

end Sys2Proof
end

