-- ==== Sys2Proof/Machine/Field.lean ====
section
/-! DEFINITION. The pure functions of 40_field_arith.md: GF(2^8) and GF(2^64) arithmetic and the top-n mask.
They read no state and write none (00_scope.md R12). -/

namespace Sys2Proof.Machine

/-- R110: one multiplication of the byte `v` by x, with reduction constant `c`. -/
def mulx (v c : Byte) : Byte :=
  if v.getLsbD 7 then (v <<< 1) ^^^ c else v <<< 1

/-- R113: `mulx` applied `i` times, as the source's loop. -/
def mulxpow (v : Byte) (i : Nat) (c : Byte) : Byte :=
  match i with
  | 0 => v
  | k + 1 => mulx (mulxpow v k c) c

/-- The GF(2^8) reduction constant of the LFSR feedback (R6). -/
def lfsrConst : Byte := 0xA9#8

/-- R115: MULα, four powers packed with the first exponent in the most significant byte. -/
def mulalpha (c : Byte) : Word :=
  be32 (mulxpow c 23 lfsrConst) (mulxpow c 245 lfsrConst) (mulxpow c 48 lfsrConst) (mulxpow c 239 lfsrConst)

/-- R117: DIVα, the same packing with the exponents 16, 39, 6, 64. -/
def divalpha (c : Byte) : Word :=
  be32 (mulxpow c 16 lfsrConst) (mulxpow c 39 lfsrConst) (mulxpow c 6 lfsrConst) (mulxpow c 64 lfsrConst)

/-- R119: one multiplication of the doubleword `v` by x, with reduction constant `c`. -/
def mul64x (v c : DWord) : DWord :=
  if v.getLsbD 63 then (v <<< 1) ^^^ c else v <<< 1

/-- R121: `mul64x` applied `i` times. -/
def mul64xpow (v : DWord) (i : Nat) (c : DWord) : DWord :=
  match i with
  | 0 => v
  | k + 1 => mul64x (mul64xpow v k c) c

/-- The first `n` rounds of R123's loop: the XOR of `mul64xpow v i c` over the set bits `i < n` of `p`. -/
def mul64Sum (v p c : DWord) : Nat → DWord
  | 0 => 0#64
  | i + 1 => if p.getLsbD i then mul64Sum v p c i ^^^ mul64xpow v i c else mul64Sum v p c i

/-- R123: schoolbook multiplication of `v` by `p`, over all 64 bits of `p`. -/
def mul64 (v p c : DWord) : DWord := mul64Sum v p c 64

/-- The GF(2^64) reduction constant of F9 (R6, R206). -/
def f9Const : DWord := 0x1B#64

/-- R125: a byte with the top `n` bits set. Callers keep `n ≤ 8`: MASK8 checks it (R126), F8 and F9 pass 1..7. -/
def mask8bit (n : Nat) : Byte := 0xFF#8 <<< (8 - n)

end Sys2Proof.Machine
end

