-- ==== Sys2Proof/Machine/Engine.lean ====
section
/-! DEFINITION. The SNOW 3G engine as pure functions: the FSM clock (41_sbox_fsm.md R145), the LFSR clock in both modes,
loading, Initialize and keystream (42_lfsr_engine.md R155 to R170). -/

namespace Sys2Proof.Machine

/-- R145: the value F that `FsmClock()` returns, `(S15 + R1) mod 2^32 ^ R2`, from the current LFSR and the old FSM. -/
def fsmOutput (e : Engine) : Word := (e.lfsr.s15 + e.fsm.r1) ^^^ e.fsm.r2

/-- R145, R146: the three new FSM registers, each from the old values of all three. -/
def fsmNext (e : Engine) : Fsm :=
  { r1 := e.fsm.r2 + (e.fsm.r3 ^^^ e.lfsr.s5), r2 := sbox1Word e.fsm.r1, r3 := sbox2Word e.fsm.r2 }

/-- R145: one FSM clock. It never changes the LFSR. -/
def fsmClock (e : Engine) : Engine := { e with fsm := fsmNext e }

/-- R156: the keystream-mode feedback word, from S0, S2 and S11. -/
def lfsrFeedback (l : Lfsr) : Word :=
  (l.s0 <<< 8) ^^^ mulalpha (byteOf 0 l.s0) ^^^ l.s2 ^^^ (l.s11 >>> 8) ^^^ divalpha (byteOf 3 l.s11)

/-- R157 `LfsrShift(v)`: every cell takes its upper neighbour's old value, and S15 takes `v`. -/
def lfsrShift (v : Word) (l : Lfsr) : Lfsr :=
  { s0 := l.s1, s1 := l.s2, s2 := l.s3, s3 := l.s4, s4 := l.s5, s5 := l.s6, s6 := l.s7, s7 := l.s8,
    s8 := l.s9, s9 := l.s10, s10 := l.s11, s11 := l.s12, s12 := l.s13, s13 := l.s14, s14 := l.s15, s15 := v }

/-- R157: the LFSR clock in keystream mode. -/
def lfsrClockKs (e : Engine) : Engine := { e with lfsr := lfsrShift (lfsrFeedback e.lfsr) e.lfsr }

/-- R157: the LFSR clock in initialization mode, with `f` folded into the new S15. -/
def lfsrClockInit (f : Word) (e : Engine) : Engine := { e with lfsr := lfsrShift (lfsrFeedback e.lfsr ^^^ f) e.lfsr }

/-- R160 `LoadState(k, iv)`: the key-loading table. `~~~` is the table's XOR with 0xFFFFFFFF (R9). -/
def loadState (k iv : Quad) : Lfsr :=
  { s15 := k.w3 ^^^ iv.w0, s14 := k.w2, s13 := k.w1, s12 := k.w0 ^^^ iv.w1,
    s11 := ~~~k.w3, s10 := ~~~k.w2 ^^^ iv.w2, s9 := ~~~k.w1 ^^^ iv.w3, s8 := ~~~k.w0,
    s7 := k.w3, s6 := k.w2, s5 := k.w1, s4 := k.w0,
    s3 := ~~~k.w3, s2 := ~~~k.w2, s1 := ~~~k.w1, s0 := ~~~k.w0 }

/-- R162 steps 1 and 2: the loaded LFSR and a zero FSM. -/
def loadEngine (k iv : Quad) : Engine := { lfsr := loadState k iv, fsm := { r1 := 0, r2 := 0, r3 := 0 } }

/-- One of R162's 32 rounds: an FSM clock, then an LFSR clock that folds its output in. -/
def initRound (e : Engine) : Engine := lfsrClockInit (fsmOutput e) (fsmClock e)

/-- `n` initialisation rounds. -/
def initRounds : Nat → Engine → Engine
  | 0, e => e
  | n + 1, e => initRounds n (initRound e)

/-- R162 `Initialize(k, iv)`, as far as the engine's registers go. -/
def initEngine (k iv : Quad) : Engine := initRounds 32 (loadEngine k iv)

/-- One keystream clock (R167): an FSM clock, then an LFSR clock in keystream mode. The priming clock is the same clock with
its output discarded. -/
def ksClock (e : Engine) : Engine := lfsrClockKs (fsmClock e)

/-- R167: the word a keystream clock emits, `F ^ S[0]`, with S0 as it stands before the clock's shift. -/
def ksOutput (e : Engine) : Word := fsmOutput e ^^^ e.lfsr.s0

/-- The words of `n` keystream clocks in a row. -/
def ksWords : Nat → Engine → List Word
  | 0, _ => []
  | n + 1, e => ksOutput e :: ksWords n (ksClock e)

/-- The engine after `n` keystream clocks. -/
def ksAdvance : Nat → Engine → Engine
  | 0, e => e
  | n + 1, e => ksAdvance n (ksClock e)

/-- What `KeystreamWords(n)` returns and leaves behind (R167). -/
structure KsRun where
  words : List Word
  eng : Engine
  primed : Bool
deriving DecidableEq, Repr

/-- R167, R168: the priming clock, where it has not run since the last initialisation. -/
def primeEngine (primed : Bool) (e : Engine) : Engine := if primed then e else ksClock e

/-- R167 `KeystreamWords(n)` from an engine and its PRIMED flag. A request for no word runs no clock. -/
def keystreamWords (n : Nat) (e : Engine) (primed : Bool) : KsRun :=
  if n = 0 then { words := [], eng := e, primed := primed }
  else { words := ksWords n (primeEngine primed e), eng := ksAdvance n (primeEngine primed e), primed := true }

end Sys2Proof.Machine
end

