-- ==== Sys2Proof/Machine/Operands.lean ====
section
/-! DEFINITION. The operand forms (30_encoding.md R88): command-word bytes, the engine key and IV that each setup takes from
the operand registers, bit lengths and the byte and word counts they give. -/

namespace Sys2Proof.Machine

/-- A byte operand of the command word, V or C (R87, R88). -/
def byteOperand (x : Nat) : Byte := BitVec.ofNat 8 x

/-- R9: `ceil(a / b)`. -/
def ceilDiv (a b : Nat) : Nat := (a + b - 1) / b

/-- The engine key of ENG_LOAD and ENG_INIT: KEYj is kj (R29). -/
def engKey (s : State) : Quad := s.opr.key

/-- The engine IV of ENG_LOAD and ENG_INIT: IVj is the IV word IVj (R30). -/
def engIv (s : State) : Quad := s.opr.iv

/-- The engine key of F8_SETUP and F9_SETUP: k3 = KEY0, k2 = KEY1, k1 = KEY2, k0 = KEY3 (R29, R186, R201). -/
def packedKey (s : State) : Quad :=
  { w0 := s.opr.key.w3, w1 := s.opr.key.w2, w2 := s.opr.key.w1, w3 := s.opr.key.w0 }

/-- R186: `(BEARER[4:0] << 27) | (DIRECTION[0] << 26)`, bits 25:0 zero. -/
def f8BearerWord (s : State) : Word := s.opr.bearer ++ s.opr.direction ++ 0#26

/-- R186: the IV of UEA2, IV3 = IV1 = COUNT and IV2 = IV0 = the BEARER and DIRECTION word. -/
def f8Iv (s : State) : Quad :=
  { w0 := f8BearerWord s, w1 := s.opr.count, w2 := f8BearerWord s, w3 := s.opr.count }

/-- R201: the IV of UIA2. DIRECTION flips bit 31 of IV1 and bit 15 of IV0. -/
def f9Iv (s : State) : Quad :=
  { w0 := s.opr.fresh ^^^ (s.opr.direction.setWidth 32 <<< 15)
    w1 := s.opr.count ^^^ (s.opr.direction.setWidth 32 <<< 31)
    w2 := s.opr.fresh
    w3 := s.opr.count }

/-- SRC as a byte offset of DBUF (R35). -/
def srcOffset (s : State) : Nat := s.opr.src.toNat

/-- DST as a byte offset of DBUF (R35). -/
def dstOffset (s : State) : Nat := s.opr.dst.toNat

/-- LEN_LO, the bit length of F8 (R36). -/
def f8Length (s : State) : Nat := (loHalf s.opr.len).toNat

/-- All of LEN, the bit length of F9_HASH and F9_VERIFY (R36). -/
def f9Length (s : State) : Nat := s.opr.len.toNat

/-- R188: `nb = ceil(L / 8)`, the bytes of real data. -/
def byteCount (len : Nat) : Nat := ceilDiv len 8

/-- R188: `n = ceil(L / 32)`, the keystream words. -/
def wordCount (len : Nat) : Nat := ceilDiv len 32

end Sys2Proof.Machine
end

