-- ==== Sys2Proof/Machine/Arith.lean ====
section
/-! DEFINITION. The field-arithmetic commands (40_field_arith.md). Each writes RES and, at its completion, STATUS; nothing
else (10_state.md R53). -/

namespace Sys2Proof.Machine

/-- R40, R53: an arithmetic command's effect, `RES <- v`. -/
def writeRes (v : DWord) (s : State) : State := { s with res := v }

/-- R112 MULX: `RES <- zext_64(mulx(V, C))`. -/
def execMulx (v c : Nat) (s : State) : Host.Outcome State Fault Refusal :=
  finish (writeRes (zextByte (mulx (byteOperand v) (byteOperand c))) s)

/-- R114 MULXPOW: `RES <- zext_64(mulxpow(V, I, C))`. -/
def execMulxpow (v c i : Nat) (s : State) : Host.Outcome State Fault Refusal :=
  finish (writeRes (zextByte (mulxpow (byteOperand v) i (byteOperand c))) s)

/-- R116 MULALPHA: `RES <- zext_64(mulalpha(V))`. -/
def execMulalpha (v : Nat) (s : State) : Host.Outcome State Fault Refusal :=
  finish (writeRes (zextWord (mulalpha (byteOperand v))) s)

/-- R118 DIVALPHA: `RES <- zext_64(divalpha(V))`. -/
def execDivalpha (v : Nat) (s : State) : Host.Outcome State Fault Refusal :=
  finish (writeRes (zextWord (divalpha (byteOperand v))) s)

/-- R126 MASK8: E_OPERAND when N > 8, else `RES <- zext_64(mask8bit(N))`. -/
def execMask8 (n : Nat) (s : State) : Host.Outcome State Fault Refusal :=
  if n > 8 then raiseError .operand s else finish (writeRes (zextByte (mask8bit n)) s)

/-- R120 MUL64X: `RES <- mul64x(OPA, OPC)`. -/
def execMul64x (s : State) : Host.Outcome State Fault Refusal :=
  finish (writeRes (mul64x s.opr.opa s.opr.opc) s)

/-- R122 MUL64XPOW: `RES <- mul64xpow(OPA, I, OPC)`. -/
def execMul64xpow (i : Nat) (s : State) : Host.Outcome State Fault Refusal :=
  finish (writeRes (mul64xpow s.opr.opa i s.opr.opc) s)

/-- R124 MUL64: `RES <- mul64(OPA, OPB, OPC)`. -/
def execMul64 (s : State) : Host.Outcome State Fault Refusal :=
  finish (writeRes (mul64 s.opr.opa s.opr.opb s.opr.opc) s)

end Sys2Proof.Machine
end

