-- ==== Sys2Proof/Machine/Control.lean ====
section
/-! DEFINITION. The control commands (45_control.md). -/

namespace Sys2Proof.Machine

/-- R220 NOP: completion only. -/
def execNop (s : State) : Host.Outcome State Fault Refusal := finish s

/-- R222 SRESET: every register but ID to its reset value, DBUF unchanged, then the completion. -/
def execSreset (s : State) : Host.Outcome State Fault Refusal := finish (resetRegisters s)

end Sys2Proof.Machine
end

