-- ==== Sys2Proof/Machine/Keystream.lean ====
section
/-! DEFINITION. The LFSR clocks, the engine setups and the keystream commands (42_lfsr_engine.md). -/

namespace Sys2Proof.Machine

/-- R159 LFSR_CLK_INIT: `LfsrClockInit(FREG)`. FREG is read, not cleared. -/
def execLfsrClkInit (s : State) : Host.Outcome State Fault Refusal :=
  finish { s with eng := lfsrClockInit s.freg s.eng }

/-- R158 LFSR_CLK_KS: `LfsrClockKs()`. -/
def execLfsrClkKs (s : State) : Host.Outcome State Fault Refusal :=
  finish { s with eng := lfsrClockKs s.eng }

/-- R162 `Initialize(k, iv)` on the unit: the engine, STATE = STREAMING and PRIMED = 0. F9VALID is not touched (R166). -/
def runInitialize (k iv : Quad) (s : State) : State :=
  { s with eng := initEngine k iv, engstat := { s.engstat with state := .streaming, primed := false } }

/-- R167 `KeystreamWords(n)` on the unit: the words it returns. -/
def keystreamOf (n : Nat) (s : State) : List Word := (keystreamWords n s.eng s.engstat.primed).words

/-- R167 `KeystreamWords(n)` on the unit: the engine and PRIMED as it leaves them. -/
def advanceKeystream (n : Nat) (s : State) : State :=
  { s with
    eng := (keystreamWords n s.eng s.engstat.primed).eng
    engstat := { s.engstat with primed := (keystreamWords n s.eng s.engstat.primed).primed } }

/-- R172: the state check of KS_WORD, KS_GEN and F8. -/
def streaming (s : State) : Bool := decide (s.engstat.state = .streaming)

/-- R163 ENG_LOAD: Initialize steps 1 and 2; STATE = INITIALIZING, PRIMED = 0. -/
def execEngLoad (s : State) : Host.Outcome State Fault Refusal :=
  finish { s with
    eng := loadEngine (engKey s) (engIv s)
    engstat := { s.engstat with state := .initializing, primed := false } }

/-- R166 ENG_INIT: `Initialize(key, iv)`. -/
def execEngInit (s : State) : Host.Outcome State Fault Refusal :=
  finish (runInitialize (engKey s) (engIv s) s)

/-- R171 KS_WORD: one keystream word into RES. -/
def execKsWord (s : State) : Host.Outcome State Fault Refusal :=
  if streaming s then finish (writeRes (zextWord ((keystreamOf 1 s).headD 0)) (advanceKeystream 1 s))
  else raiseError .state s

/-- R174: keystream words as the bytes they occupy, most significant byte first. -/
def keystreamBytes (ws : List Word) : List Byte := ws.flatMap wordBytes

/-- R173 KS_GEN: `n` keystream words into DBUF from DST on, after the state check and the range check. -/
def execKsGen (n : Nat) (s : State) : Host.Outcome State Fault Refusal :=
  if !streaming s then raiseError .state s
  else if !inRange s (dstOffset s) (4 * n) then raiseError .range s
  else finish (memWrite (dstOffset s) (keystreamBytes (keystreamOf n s)) (advanceKeystream n s))

end Sys2Proof.Machine
end

