-- ==== Sys2Proof/Machine/F8.lean ====
section
/-! DEFINITION. UEA2: F8_SETUP and F8 (43_f8.md). -/

namespace Sys2Proof.Machine

/-- R187 F8_SETUP: `Initialize` with the key and IV of R186. -/
def execF8Setup (s : State) : Host.Outcome State Fault Refusal :=
  finish (runInitialize (packedKey s) (f8Iv s) s)

/-- R190 `F8Byte(data, i, ks, L)`: output byte `i`, with `nb = ceil(L / 8)`. -/
def f8Byte (data : List Byte) (i : Nat) (ks : List Word) (len : Nat) : Byte :=
  if i ≥ byteCount len then 0
  else
    let o := data.getD i 0 ^^^ byteOf (i % 4) (ks.getD (i / 4) 0)
    if i + 1 = byteCount len ∧ len % 8 ≠ 0 then o &&& mask8bit (len % 8) else o

/-- R191: the `4 * ceil(L / 32)` output bytes of F8. -/
def f8Output (data : List Byte) (ks : List Word) (len : Nat) : List Byte :=
  (List.range (4 * wordCount len)).map fun i => f8Byte data i ks len

/-- R191: the input bytes of F8, all read before any output is written (20_memory.md R76). -/
def f8Input (s : State) : List Byte := memRead s (srcOffset s) (byteCount (f8Length s))

/-- R191 F8: E_OPERAND, E_STATE and E_RANGE checked in that order, then the XOR-and-mask datapath. -/
def execF8 (s : State) : Host.Outcome State Fault Refusal :=
  if hiHalf s.opr.len ≠ 0 then raiseError .operand s
  else if !streaming s then raiseError .state s
  else if !(inRange s (srcOffset s) (byteCount (f8Length s)) && inRange s (dstOffset s) (4 * wordCount (f8Length s))) then
    raiseError .range s
  else
    finish (memWrite (dstOffset s) (f8Output (f8Input s) (keystreamOf (wordCount (f8Length s)) s) (f8Length s))
      (advanceKeystream (wordCount (f8Length s)) s))

end Sys2Proof.Machine
end

