-- ==== Sys2Proof/Machine/F9.lean ====
section
/-! DEFINITION. UIA2: F9_SETUP, F9_HASH and F9_VERIFY (44_f9.md). -/

namespace Sys2Proof.Machine

/-- R202: P, Q and Z5 from the five keystream words of the setup. -/
def f9Context (ks : List Word) : F9Regs :=
  { p := pairOf (ks.getD 0 0) (ks.getD 1 0), q := pairOf (ks.getD 2 0) (ks.getD 3 0), z5 := ks.getD 4 0 }

/-- R202 `F9Derive()`, after `Initialize`: five keystream words, the context they give, and F9VALID = 1. -/
def deriveContext (s : State) : State :=
  { advanceKeystream 5 s with
    f9 := f9Context (keystreamOf 5 s)
    engstat := { (advanceKeystream 5 s).engstat with f9valid := true } }

/-- R203 F9_SETUP: `Initialize` with the key and IV of R201, then the derivation of R202. -/
def execF9Setup (s : State) : Host.Outcome State Fault Refusal :=
  finish (deriveContext (runInitialize (packedKey s) (f9Iv s) s))

/-- R204: the 64-bit blocks of a message of `len` bits, the length block among them. -/
def blockCount (len : Nat) : Nat := if len % 64 = 0 then len / 64 + 1 else len / 64 + 2

/-- R205: byte `j` of the padded message, with the bits beyond `len` in the final byte cleared. -/
def messageByte (data : List Byte) (len j : Nat) : Byte :=
  if j ≥ byteCount len then 0
  else if j + 1 = byteCount len ∧ len % 8 ≠ 0 then data.getD j 0 &&& mask8bit (len % 8)
  else data.getD j 0

/-- R205: message block `M_i`. -/
def messageBlock (data : List Byte) (len i : Nat) : DWord :=
  be64 (messageByte data len (8 * i)) (messageByte data len (8 * i + 1)) (messageByte data len (8 * i + 2))
    (messageByte data len (8 * i + 3)) (messageByte data len (8 * i + 4)) (messageByte data len (8 * i + 5))
    (messageByte data len (8 * i + 6)) (messageByte data len (8 * i + 7))

/-- R205: the message blocks `M_0 .. M_{d-2}`. -/
def messageBlocks (data : List Byte) (len : Nat) : List DWord :=
  (List.range (blockCount len - 1)).map (messageBlock data len)

/-- R206: one step of the hash, `mul64(EVAL ^ M, P, 0x1B)`. -/
def hashStep (p eval m : DWord) : DWord := mul64 (eval ^^^ m) p f9Const

/-- R206 `F9Eval(M, L)`: the full blocks but the last two, the final message block where there is one, then the length and
the multiplication by Q. -/
def f9Eval (p q : DWord) (blocks : List DWord) (len : DWord) : DWord :=
  let d := blockCount len.toNat
  let full := (blocks.take (d - 2)).foldl (hashStep p) 0
  let body := if d ≥ 2 then hashStep p full (blocks.getD (d - 2) 0) else full
  mul64 (body ^^^ len) q f9Const

/-- R206: the hash of the message that SRC and LEN name, under the current context. -/
def evalOf (s : State) : DWord :=
  f9Eval s.f9.p s.f9.q (messageBlocks (memRead s (srcOffset s) (byteCount (f9Length s))) (f9Length s)) s.opr.len

/-- R207: the MAC-I, `EVAL[63:32] ^ Z5`. -/
def maciOf (s : State) : Word := hiHalf (evalOf s) ^^^ s.f9.z5

/-- R208: the effect of a hash, EVAL and MACI written. -/
def writeHash (s : State) : State := { s with eval := evalOf s, maci := maciOf s }

/-- R208 F9_HASH: E_STATE, then E_RANGE, then the hash. -/
def execF9Hash (s : State) : Host.Outcome State Fault Refusal :=
  if !s.engstat.f9valid then raiseError .state s
  else if !inRange s (srcOffset s) (byteCount (f9Length s)) then raiseError .range s
  else finish (writeHash s)

/-- R210: the comparison's result, `STATUS.VOK <- (MACI = TAG)`. -/
def writeVok (v : Bool) (s : State) : State := { s with status := { s.status with vok := v } }

/-- R210 F9_VERIFY: as F9_HASH, and VOK says whether the MAC-I equals TAG. -/
def execF9Verify (s : State) : Host.Outcome State Fault Refusal :=
  if !s.engstat.f9valid then raiseError .state s
  else if !inRange s (srcOffset s) (byteCount (f9Length s)) then raiseError .range s
  else finish (writeVok (decide (maciOf s = s.opr.tag)) (writeHash s))

end Sys2Proof.Machine
end

