-- ==== Sys2Proof/Machine/SboxFsm.lean ====
section
/-! DEFINITION. The S-box commands and the FSM clock (41_sbox_fsm.md). -/

namespace Sys2Proof.Machine

/-- R143 SBOX1: `RES <- zext_64(S1(OPA_LO))`. -/
def execSbox1 (s : State) : Host.Outcome State Fault Refusal :=
  finish (writeRes (zextWord (sbox1Word (loHalf s.opr.opa))) s)

/-- R144 SBOX2: `RES <- zext_64(S2(OPA_LO))`. -/
def execSbox2 (s : State) : Host.Outcome State Fault Refusal :=
  finish (writeRes (zextWord (sbox2Word (loHalf s.opr.opa))) s)

/-- R147 FSM_CLK: `FREG <- FsmClock()`, in every engine state. -/
def execFsmClk (s : State) : Host.Outcome State Fault Refusal :=
  finish { s with freg := fsmOutput s.eng, eng := fsmClock s.eng }

end Sys2Proof.Machine
end

