-- ==== Sys2Proof/Machine/Dispatch.lean ====
section
/-! DEFINITION. One arm per command: the whole completion step of R66 for a decoded command. -/

namespace Sys2Proof.Machine

def exec (i : Instr) (s : State) : Host.Outcome State Fault Refusal :=
  match i with
  | .nop => Sys2Proof.Machine.execNop s
  | .sreset => Sys2Proof.Machine.execSreset s
  | .mulx v c => Sys2Proof.Machine.execMulx v c s
  | .mulxpow v c e => Sys2Proof.Machine.execMulxpow v c e s
  | .mulalpha v => Sys2Proof.Machine.execMulalpha v s
  | .divalpha v => Sys2Proof.Machine.execDivalpha v s
  | .mask8 n => Sys2Proof.Machine.execMask8 n s
  | .mul64x => Sys2Proof.Machine.execMul64x s
  | .mul64xpow e => Sys2Proof.Machine.execMul64xpow e s
  | .mul64 => Sys2Proof.Machine.execMul64 s
  | .sbox1 => Sys2Proof.Machine.execSbox1 s
  | .sbox2 => Sys2Proof.Machine.execSbox2 s
  | .fsmClk => Sys2Proof.Machine.execFsmClk s
  | .lfsrClkInit => Sys2Proof.Machine.execLfsrClkInit s
  | .lfsrClkKs => Sys2Proof.Machine.execLfsrClkKs s
  | .engLoad => Sys2Proof.Machine.execEngLoad s
  | .engInit => Sys2Proof.Machine.execEngInit s
  | .ksWord => Sys2Proof.Machine.execKsWord s
  | .ksGen n => Sys2Proof.Machine.execKsGen n s
  | .f8Setup => Sys2Proof.Machine.execF8Setup s
  | .f8 => Sys2Proof.Machine.execF8 s
  | .f9Setup => Sys2Proof.Machine.execF9Setup s
  | .f9Hash => Sys2Proof.Machine.execF9Hash s
  | .f9Verify => Sys2Proof.Machine.execF9Verify s

end Sys2Proof.Machine
end

