-- ==== Sys2Proof/Machine/Step.lean ====
section
/-! DEFINITION. One step of the machine: the next event of the host's traffic, or the unit's own completion step (20_memory.md
R66, R69; log entries 1 to 3). -/

namespace Sys2Proof.Machine

/-- R90: the error a word that decodes to no command completes with. -/
def decodeErrCode : DecodeError → ErrCode
  | .illegal => .illegal
  | .reserved => .rsvd

/-- R66, R90: the completion step of the command word `w`. -/
def completion (w : Word) (s : State) : Host.Outcome State Fault Refusal :=
  match decode w with
  | .ok i => exec i s
  | .error e => raiseError (decodeErrCode e) s

/-- The unit's turn: the completion step where BUSY = 1; a quiescent unit keeps its state (R268; log entry 3). -/
def unitStep (s : State) : Host.Outcome State Fault Refusal :=
  match fetchCommand s with
  | some w => completion w s
  | none => .next s

/-- One step. The oldest event happens; where the host has nothing to do, the unit takes its turn. -/
def step (s : State) : Host.Outcome State Fault Refusal :=
  match s.host with
  | [] => unitStep s
  | .unitTurn :: rest => unitStep { s with host := rest }
  | .powerReset :: rest => .next (powerOn { s with host := rest })
  | .read addr size :: rest =>
    match busOffset s.cfg addr with
    | some off => .next (hostRead off size { s with host := rest })
    | none => .fault (.outsideWindow addr)
  | .write addr size w :: rest =>
    match busOffset s.cfg addr with
    | some off => .next (hostWrite off size w { s with host := rest })
    | none => .fault (.outsideWindow addr)

/-- `s` with the table word `w` (of `nbits` bits, every bit above them 0) as the latched command and the unit's turn next: what
a CMD write of that word leaves (R66; log entry 2). -/
def State.withFetchWord (s : State) (nbits w : Nat) : State :=
  { issueCommand (BitVec.ofNat 32 (w % 2 ^ nbits)) s with
    host := match s.host with
      | [] => []
      | events => .unitTurn :: events }

end Sys2Proof.Machine
end

