-- ==== Sys2Proof/Machine/Program.lean ====
section
/-! DEFINITION. Host programs (30_encoding.md R94, R95): the operations a program is written in, the pseudo-operations, and
the events a run of it is at the unit's pins. A program's branches on what it reads are the host's own (45_control.md R226):
here a program is the list of operations that one run of it performs. -/

namespace Sys2Proof.Machine

/-- R94: the host operations. -/
inductive HostOp where
  | wr (r : Reg) (v : Word)
  | wrDbuf (o : Nat) (v : Word)
  | rd (r : Reg)
  | rdDbuf (o : Nat)
  | cmd (i : Instr)
  /-- R95: the loop of STATUS reads that ends with the first one that sees BUSY = 0. -/
  | wait
deriving DecidableEq, Repr

/-- Where a run stands with respect to the unit: how many host accesses the running command still lets pass before it completes
(none: the unit is idle), and how many LATENCY draws the run has taken. -/
structure Timing where
  left : Option Nat
  drawn : Nat
deriving DecidableEq, Repr

/-- A host write of a register: one 32-bit access at BASE plus its offset (R6, R94). -/
def writeEvent (c : Config) (r : Reg) (v : Word) : HostEvent := .write (c.base + regOffset r) 32 v

/-- A host read of a register. -/
def readEvent (c : Config) (r : Reg) : HostEvent := .read (c.base + regOffset r) 32

/-- R94: the access of one operation; WAIT is no single access. A command whose operands do not fit their fields is refused by
the assembler (R93), and a DBUF offset is a multiple of 4. -/
def opAccess (c : Config) : HostOp → Option HostEvent
  | .wr r v => some (writeEvent c r v)
  | .wrDbuf o v => if o % 4 = 0 then some (.write (c.base + dbufWindow + o) 32 v) else none
  | .rd r => some (readEvent c r)
  | .rdDbuf o => if o % 4 = 0 then some (.read (c.base + dbufWindow + o) 32) else none
  | .cmd i => if i.wf then some (writeEvent c .cmd (encode i)) else none
  | .wait => none

/-- The operations that issue a command where the unit is idle (R66): those that write CMD. -/
def issues : HostOp → Bool
  | .wr r _ => r = .cmd
  | .cmd _ => true
  | _ => false

/-- R66: a CMD write to an idle unit starts a command, which takes the next LATENCY draw. -/
def startCommand (latency : Nat → Nat) (op : HostOp) (drawn : Nat) : Timing :=
  if issues op then { left := some (latency drawn), drawn := drawn + 1 } else { left := none, drawn := drawn }

/-- One access of a run. A command whose draw is used up completes just before it, WAIT or no WAIT; one that is still running
lets it pass. DESIGN CHOICE (log entry 19): the spec leaves LATENCY open for each command and each run, so `latency n`, an
argument that nothing constrains, is how many host accesses pass before the run's n-th command completes. -/
def timedAccess (latency : Nat → Nat) (op : HostOp) (e : HostEvent) (t : Timing) : List HostEvent × Timing :=
  match t.left with
  | none => ([e], startCommand latency op t.drawn)
  | some 0 => ([.unitTurn, e], startCommand latency op t.drawn)
  | some (n + 1) => ([e], { t with left := some n })

/-- R95 `WAIT`: the polls that see BUSY = 1, as many as the running command's draw still lets pass, then its completion, then
the poll that sees BUSY = 0. On an idle unit it is that last poll alone. -/
def timedWait (c : Config) (t : Timing) : List HostEvent × Timing :=
  match t.left with
  | none => ([readEvent c .status], t)
  | some n => (List.replicate n (readEvent c .status) ++ [.unitTurn, readEvent c .status], { t with left := none })

/-- R94, R95: the events of one operation of a run, and where the run stands after it. The unit's turn stands where the LATENCY
draw of the running command puts it, not in WAIT alone (log entry 19). -/
def opEvents (c : Config) (latency : Nat → Nat) (op : HostOp) (t : Timing) : Option (List HostEvent × Timing) :=
  match op with
  | .wait => some (timedWait c t)
  | op => (opAccess c op).map fun e => timedAccess latency op e t

/-- The events of a run of a program, operation by operation; none where one of them is refused. A command still running at
the end completes after them, as the host has nothing more to do. -/
def programEvents (c : Config) (latency : Nat → Nat) : List HostOp → Timing → Option (List HostEvent)
  | [], _ => some []
  | op :: ops, t =>
    match opEvents c latency op t with
    | some (es, t') => (programEvents c latency ops t').map (es ++ ·)
    | none => none

/-- Where a run starts: a command that runs already takes the first draw. -/
def startTiming (latency : Nat → Nat) (s : State) : Timing :=
  if busy s then { left := some (latency 0), drawn := 1 } else { left := none, drawn := 0 }

/-- The machine with a run of a program as the host's traffic to come. -/
def withProgram (latency : Nat → Nat) (ops : List HostOp) (s : State) : Option State :=
  (programEvents s.cfg latency ops (startTiming latency s)).map fun es => { s with host := es }

/-! ### The pseudo-operations (R95) -/

/-- R95 `EXEC <command>`: CMD, then WAIT. -/
def execOps (i : Instr) : List HostOp := [.cmd i, .wait]

/-- R95 `INITIALIZE`. -/
def initializeOps : List HostOp := execOps .engInit

/-- R95 `GENERATE n`. -/
def generateOps (n : Nat) : List HostOp := execOps (.ksGen n)

/-- R95 `ENCRYPT`. -/
def encryptOps : List HostOp := execOps .f8

/-- R95 `DECRYPT`: the same operation as ENCRYPT. -/
def decryptOps : List HostOp := execOps .f8

/-- R95 `HASH`. -/
def hashOps : List HostOp := execOps .f9Hash

/-- R95 `VERIFY`. -/
def verifyOps : List HostOp := execOps .f9Verify

end Sys2Proof.Machine
end

