-- ==== Sys2Proof/Safety.lean ====
section
/-! DEFINITION. What counts as a good state and a good run, and the terms statements are written in: the machine's
invariant, how a command ends, what it keeps, and runs of several commands. -/

namespace Sys2Proof.Machine

/-- THE INVARIANT: DBUF is in canonical form within DBUF_SIZE (10_state.md R46), and while BUSY = 1 a completion is not yet
announced: DONE = 0 (45_control.md R224). -/
def Inv (s : State) : Prop :=
  Memory.wf s.cfg.dbufSize s.dbuf = true ∧ (busy s = true → s.status.done = false)

/-- A step that does not stop the machine. -/
def Proceeds (o : Host.Outcome State Fault Refusal) : Prop := ∃ t, o = .next t

/-! ### How a command ends -/

/-- The command succeeded: PENDING consumed, DONE = 1, ERRCODE = 0, ERR and OVERRUN as they were (R66, R26). -/
def succeeded (s t : State) : Prop :=
  t.pending = none ∧ t.status.done = true ∧ t.status.errcode = .ok ∧ t.status.err = s.status.err ∧
    t.status.overrun = s.status.overrun

/-- The state in which a command that raised `code` in `s` leaves the unit: STATUS changed, and PENDING consumed (R233). -/
def afterError (code : ErrCode) (s : State) : State :=
  { s with pending := none, status := { s.status with errcode := code, err := true, done := true } }

/-! ### What a command keeps, part by part -/

/-- CTRL, every operand register, the platform, the host's traffic and the model's own counters. -/
def keepsControl (s t : State) : Prop :=
  t.ctrl = s.ctrl ∧ t.opr = s.opr ∧ t.cfg = s.cfg ∧ t.host = s.host ∧ t.rsp = s.rsp ∧ t.draws = s.draws ∧
    t.powerCycle = s.powerCycle

/-- STATUS.VOK. -/
def keepsVok (s t : State) : Prop := t.status.vok = s.status.vok

/-- RES. -/
def keepsRes (s t : State) : Prop := t.res = s.res

/-- EVAL and MACI. -/
def keepsHash (s t : State) : Prop := t.eval = s.eval ∧ t.maci = s.maci

/-- FREG. -/
def keepsFreg (s t : State) : Prop := t.freg = s.freg

/-- P, Q and Z5. -/
def keepsF9 (s t : State) : Prop := t.f9 = s.f9

/-- S0..S15 and R1..R3. -/
def keepsEngine (s t : State) : Prop := t.eng = s.eng

/-- ENGSTAT. -/
def keepsEngstat (s t : State) : Prop := t.engstat = s.engstat

/-- Every byte of DBUF. -/
def keepsDbuf (s t : State) : Prop := ∀ a, dbufByte t a = dbufByte s a

/-- The frame of an arithmetic command: everything but RES and the completion's STATUS bits (R53). -/
def keepsAllButRes (s t : State) : Prop :=
  keepsControl s t ∧ keepsVok s t ∧ keepsHash s t ∧ keepsFreg s t ∧ keepsF9 s t ∧ keepsEngine s t ∧ keepsEngstat s t ∧
    keepsDbuf s t

/-- The frame of a command that writes the engine, ENGSTAT.STATE and ENGSTAT.PRIMED only (R53). -/
def keepsAllButEngine (s t : State) : Prop :=
  keepsControl s t ∧ keepsVok s t ∧ keepsRes s t ∧ keepsHash s t ∧ keepsFreg s t ∧ keepsF9 s t ∧
    t.engstat.f9valid = s.engstat.f9valid ∧ keepsDbuf s t

/-! ### The engine's words, counted from a state -/

/-- The engine at the first keystream clock of the next request (42_lfsr_engine.md R167, R168): primed. -/
def primedEngine (s : State) : Engine := primeEngine s.engstat.primed s.eng

/-- Keystream word `t` of the next request, t = 0, 1, ... (R170). -/
def nextWord (s : State) (t : Nat) : Word := ksOutput (ksClock^[t] (primedEngine s))

/-! ### Messages in DBUF -/

/-- Bit `j` of the message at byte offset `a`: bit 7 - (j mod 8) of byte floor(j / 8) (43_f8.md R190). -/
def messageBit (s : State) (a j : Nat) : Bool := (dbufByte s (a + j / 8)).getLsbD (7 - j % 8)

/-! ### Runs -/

/-- The machine after `n` steps. -/
def runSteps : Nat → State → Host.Outcome State Fault Refusal
  | 0, s => .next s
  | n + 1, s =>
    match step s with
    | .next t => runSteps n t
    | .fault f => .fault f
    | .refused r => .refused r

/-- The commands of a list executed one after the other, each as soon as the one before it has completed. -/
def execAll : List Instr → State → Host.Outcome State Fault Refusal
  | [], s => .next s
  | i :: is, s =>
    match exec i s with
    | .next t => execAll is t
    | .fault f => .fault f
    | .refused r => .refused r

end Sys2Proof.Machine
end

