-- ==== Sys2Proof/Certificates/Slice0/Obligations.lean ====
section
/-! DEFINITION. The statements about the SNOW 3G CORE, each from the rules of spec/ its docstring cites, for the provers. -/

open Sys2Proof Sys2Proof.Machine

/-! ### Terms of the statements, transcribed from the spec's tables -/

namespace Sys2Proof.Spec

/-- R91: the unassigned opcodes, as ranges. -/
def unassignedRanges : List (Nat × Nat) :=
  [(0x02, 0x0F), (0x15, 0x17), (0x1B, 0x1F), (0x23, 0x27), (0x2A, 0x2F), (0x34, 0x3F), (0x42, 0x47), (0x4B, 0xFF)]

/-- R91: the opcode of a word, bits 31:24, is in one of those ranges. -/
def unassigned (w : Word) : Bool := unassignedRanges.any fun r => decide (r.1 ≤ w.toNat / 2 ^ 24 ∧ w.toNat / 2 ^ 24 ≤ r.2)

/-- R86, R89: each assigned opcode and the bits of 23:0 that must be 0 in its format. -/
def reservedMasks : List (Nat × Word) :=
  [(0x00, 0x00FFFFFF), (0x01, 0x00FFFFFF), (0x10, 0x00FF0000), (0x11, 0x00000000), (0x12, 0x00FFFF00), (0x13, 0x00FFFF00),
   (0x14, 0x00FFFF00), (0x18, 0x00FFFFFF), (0x19, 0x00FFFF00), (0x1A, 0x00FFFFFF), (0x20, 0x00FFFFFF), (0x21, 0x00FFFFFF),
   (0x22, 0x00FFFFFF), (0x28, 0x00FFFFFF), (0x29, 0x00FFFFFF), (0x30, 0x00FFFFFF), (0x31, 0x00FFFFFF), (0x32, 0x00FFFFFF),
   (0x33, 0x00FF0000), (0x40, 0x00FFFFFF), (0x41, 0x00FFFFFF), (0x48, 0x00FFFFFF), (0x49, 0x00FFFFFF), (0x4A, 0x00FFFFFF)]

/-- R90: an assigned opcode with a reserved bit set. -/
def reservedBitSet (w : Word) : Bool :=
  reservedMasks.any fun r => decide (r.1 = w.toNat / 2 ^ 24 ∧ w &&& r.2 ≠ 0)

/-- R96: the commands of the encoding examples and their words. -/
def exampleWords : List (Instr × Word) :=
  [(.nop, 0x00000000), (.sreset, 0x01000000), (.mulx 0x80 0xA9, 0x1000A980), (.mulxpow 0x01 0xA9 8, 0x1108A901),
   (.mulalpha 0x4B, 0x1200004B), (.divalpha 0x4B, 0x1300004B), (.mask8 6, 0x14000006), (.mul64x, 0x18000000),
   (.mul64xpow 63, 0x1900003F), (.mul64, 0x1A000000), (.sbox1, 0x20000000), (.sbox2, 0x21000000), (.fsmClk, 0x22000000),
   (.lfsrClkInit, 0x28000000), (.lfsrClkKs, 0x29000000), (.engLoad, 0x30000000), (.engInit, 0x31000000),
   (.ksWord, 0x32000000), (.ksGen 25, 0x33000019), (.f8Setup, 0x40000000), (.f8, 0x41000000), (.f9Setup, 0x48000000),
   (.f9Hash, 0x49000000), (.f9Verify, 0x4A000000)]

/-- R231: E_OPERAND's cause, MASK8 with N > 8 or F8 with LEN_HI ≠ 0. -/
def operandBad (i : Instr) (s : State) : Bool :=
  match i with
  | .mask8 n => decide (8 < n)
  | .f8 => decide (2 ^ 32 ≤ s.opr.len.toNat)
  | _ => false

/-- R231: E_STATE's cause, no stream for KS_WORD, KS_GEN and F8, no context for F9_HASH and F9_VERIFY. -/
def stateBad (i : Instr) (s : State) : Bool :=
  match i with
  | .ksWord | .ksGen _ | .f8 => decide (s.engstat.state ≠ .streaming)
  | .f9Hash | .f9Verify => !s.engstat.f9valid
  | _ => false

/-- R231: E_RANGE's cause, a DBUF range that ends beyond DBUF_SIZE. -/
def rangeBad (i : Instr) (s : State) : Bool :=
  match i with
  | .ksGen n => decide (s.cfg.dbufSize < s.opr.dst.toNat + 4 * n)
  | .f8 => decide (s.cfg.dbufSize < s.opr.src.toNat + (s.opr.len.toNat + 7) / 8 ∨
      s.cfg.dbufSize < s.opr.dst.toNat + 4 * ((s.opr.len.toNat + 31) / 32))
  | .f9Hash | .f9Verify => decide (s.cfg.dbufSize < s.opr.src.toNat + (s.opr.len.toNat + 7) / 8)
  | _ => false

/-- R235: the first error that applies to the word `w` in the state `s`, by its number in R231; 0 where none does. -/
def firstError (w : Word) (s : State) : BitVec 4 :=
  if unassigned w then 1
  else if reservedBitSet w then 2
  else
    match decode w with
    | .error _ => 0
    | .ok i => if operandBad i s then 3 else if stateBad i s then 4 else if rangeBad i s then 5 else 0

/-- R22: the implemented bits of each plain RW register; none for ID, STATUS, CMD, ENGSTAT and the RO registers. -/
def plainMask : Reg → Option Word
  | .id | .status | .cmd | .engstat | .maci | .resLo | .resHi | .evalLo | .evalHi => none
  | .ctrl | .direction => some 0x00000001
  | .bearer => some 0x0000001F
  | _ => some 0xFFFFFFFF

/-- Bits 31:0 of a register pair, its `_LO` register (R39). -/
def loPart (d : DWord) : Word := BitVec.extractLsb' 0 32 d

/-- Bits 63:32 of a register pair, its `_HI` register (R39). -/
def hiPart (d : DWord) : Word := BitVec.extractLsb' 32 32 d

/-- R231: the numbers of the error codes. -/
def errorNumber : ErrCode → Word
  | .ok => 0
  | .illegal => 1
  | .rsvd => 2
  | .operand => 3
  | .state => 4
  | .range => 5

/-- R28: the numbers of ENGSTAT.STATE. -/
def stateNumber : EngState → Word
  | .uninit => 0
  | .initializing => 1
  | .streaming => 2

/-- R26: STATUS as the sum of its fields, each at its bit. -/
def statusValue (s : State) : Word :=
  (if s.pending.isSome then 0x001 else 0) + (if s.status.done then 0x002 else 0) + (if s.status.err then 0x004 else 0) +
    (if s.status.overrun then 0x008 else 0) + 0x010 * errorNumber s.status.errcode + (if s.status.vok then 0x100 else 0)

/-- R28: ENGSTAT as the sum of its fields, each at its bit. -/
def engstatValue (s : State) : Word :=
  stateNumber s.engstat.state + (if s.engstat.primed then 0x4 else 0) + (if s.engstat.f9valid then 0x8 else 0)

/-- R22: what a read returns at each offset, from the part of the state that R24 to R45 put there: the control and status registers, the key and the IV. -/
def controlReads (s : State) : List (Nat × Word) :=
  [(0x000, 0x534E3347), (0x004, if s.ctrl.irqEn then 1 else 0), (0x008, statusValue s), (0x00C, 0), (0x010, engstatValue s),
   (0x020, s.opr.key.w0), (0x024, s.opr.key.w1), (0x028, s.opr.key.w2), (0x02C, s.opr.key.w3), (0x030, s.opr.iv.w0),
   (0x034, s.opr.iv.w1), (0x038, s.opr.iv.w2), (0x03C, s.opr.iv.w3)]

/-- R22: what a read returns at each offset, from the part of the state that R24 to R45 put there: the operand registers of F8 and F9, and MACI. -/
def operandReads (s : State) : List (Nat × Word) :=
  [(0x040, s.opr.count), (0x044, s.opr.bearer.setWidth 32), (0x048, s.opr.direction.setWidth 32), (0x04C, s.opr.fresh),
   (0x050, s.opr.src), (0x054, s.opr.dst), (0x058, loPart s.opr.len), (0x05C, hiPart s.opr.len), (0x060, s.opr.tag),
   (0x064, s.maci)]

/-- R22: what a read returns at each offset, from the part of the state that R24 to R45 put there: the 64-bit operands and results, FREG and the F9 context. -/
def resultReads (s : State) : List (Nat × Word) :=
  [(0x070, loPart s.opr.opa), (0x074, hiPart s.opr.opa), (0x078, loPart s.opr.opb), (0x07C, hiPart s.opr.opb),
   (0x080, loPart s.opr.opc), (0x084, hiPart s.opr.opc), (0x088, loPart s.res), (0x08C, hiPart s.res), (0x090, s.freg),
   (0x094, s.f9.z5), (0x098, loPart s.f9.p), (0x09C, hiPart s.f9.p), (0x0A0, loPart s.f9.q), (0x0A4, hiPart s.f9.q),
   (0x0A8, loPart s.eval), (0x0AC, hiPart s.eval)]

/-- R22: what a read returns at each offset, from the part of the state that R24 to R45 put there: the LFSR and the FSM. -/
def engineReads (s : State) : List (Nat × Word) :=
  [(0x100, s.eng.lfsr.s0), (0x104, s.eng.lfsr.s1), (0x108, s.eng.lfsr.s2), (0x10C, s.eng.lfsr.s3), (0x110, s.eng.lfsr.s4),
   (0x114, s.eng.lfsr.s5), (0x118, s.eng.lfsr.s6), (0x11C, s.eng.lfsr.s7), (0x120, s.eng.lfsr.s8), (0x124, s.eng.lfsr.s9),
   (0x128, s.eng.lfsr.s10), (0x12C, s.eng.lfsr.s11), (0x130, s.eng.lfsr.s12), (0x134, s.eng.lfsr.s13),
   (0x138, s.eng.lfsr.s14), (0x13C, s.eng.lfsr.s15), (0x140, s.eng.fsm.r1), (0x144, s.eng.fsm.r2), (0x148, s.eng.fsm.r3)]

/-- R22: the register map as the host reads it, every register once, by rising offset. -/
def registerReads (s : State) : List (Nat × Word) := controlReads s ++ operandReads s ++ resultReads s ++ engineReads s

/-- R22, R23: what a write of `w` makes of the state at the offset of each plain RW register: CTRL, the key and the IV. -/
def controlWrites (w : Word) (s : State) : List (Nat × State) :=
  [(0x004, { s with ctrl := { irqEn := w.getLsbD 0 } }),
   (0x020, { s with opr := { s.opr with key := { s.opr.key with w0 := w } } }),
   (0x024, { s with opr := { s.opr with key := { s.opr.key with w1 := w } } }),
   (0x028, { s with opr := { s.opr with key := { s.opr.key with w2 := w } } }),
   (0x02C, { s with opr := { s.opr with key := { s.opr.key with w3 := w } } }),
   (0x030, { s with opr := { s.opr with iv := { s.opr.iv with w0 := w } } }),
   (0x034, { s with opr := { s.opr with iv := { s.opr.iv with w1 := w } } }),
   (0x038, { s with opr := { s.opr with iv := { s.opr.iv with w2 := w } } }),
   (0x03C, { s with opr := { s.opr with iv := { s.opr.iv with w3 := w } } })]

/-- R22, R23: what a write of `w` makes of the state at the offset of each plain RW register: the operand registers of F8 and F9. -/
def operandWrites (w : Word) (s : State) : List (Nat × State) :=
  [(0x040, { s with opr := { s.opr with count := w } }), (0x044, { s with opr := { s.opr with bearer := w.setWidth 5 } }),
   (0x048, { s with opr := { s.opr with direction := w.setWidth 1 } }),
   (0x04C, { s with opr := { s.opr with fresh := w } }), (0x050, { s with opr := { s.opr with src := w } }),
   (0x054, { s with opr := { s.opr with dst := w } }),
   (0x058, { s with opr := { s.opr with len := hiPart s.opr.len ++ w } }),
   (0x05C, { s with opr := { s.opr with len := w ++ loPart s.opr.len } }),
   (0x060, { s with opr := { s.opr with tag := w } })]

/-- R22, R23: what a write of `w` makes of the state at the offset of each plain RW register: the 64-bit operands, FREG and the F9 context. -/
def resultWrites (w : Word) (s : State) : List (Nat × State) :=
  [(0x070, { s with opr := { s.opr with opa := hiPart s.opr.opa ++ w } }),
   (0x074, { s with opr := { s.opr with opa := w ++ loPart s.opr.opa } }),
   (0x078, { s with opr := { s.opr with opb := hiPart s.opr.opb ++ w } }),
   (0x07C, { s with opr := { s.opr with opb := w ++ loPart s.opr.opb } }),
   (0x080, { s with opr := { s.opr with opc := hiPart s.opr.opc ++ w } }),
   (0x084, { s with opr := { s.opr with opc := w ++ loPart s.opr.opc } }), (0x090, { s with freg := w }),
   (0x094, { s with f9 := { s.f9 with z5 := w } }), (0x098, { s with f9 := { s.f9 with p := hiPart s.f9.p ++ w } }),
   (0x09C, { s with f9 := { s.f9 with p := w ++ loPart s.f9.p } }),
   (0x0A0, { s with f9 := { s.f9 with q := hiPart s.f9.q ++ w } }),
   (0x0A4, { s with f9 := { s.f9 with q := w ++ loPart s.f9.q } })]

/-- R22, R23: what a write of `w` makes of the state at the offset of each plain RW register: the LFSR and the FSM. -/
def engineWrites (w : Word) (s : State) : List (Nat × State) :=
  [(0x100, { s with eng := { s.eng with lfsr := { s.eng.lfsr with s0 := w } } }),
   (0x104, { s with eng := { s.eng with lfsr := { s.eng.lfsr with s1 := w } } }),
   (0x108, { s with eng := { s.eng with lfsr := { s.eng.lfsr with s2 := w } } }),
   (0x10C, { s with eng := { s.eng with lfsr := { s.eng.lfsr with s3 := w } } }),
   (0x110, { s with eng := { s.eng with lfsr := { s.eng.lfsr with s4 := w } } }),
   (0x114, { s with eng := { s.eng with lfsr := { s.eng.lfsr with s5 := w } } }),
   (0x118, { s with eng := { s.eng with lfsr := { s.eng.lfsr with s6 := w } } }),
   (0x11C, { s with eng := { s.eng with lfsr := { s.eng.lfsr with s7 := w } } }),
   (0x120, { s with eng := { s.eng with lfsr := { s.eng.lfsr with s8 := w } } }),
   (0x124, { s with eng := { s.eng with lfsr := { s.eng.lfsr with s9 := w } } }),
   (0x128, { s with eng := { s.eng with lfsr := { s.eng.lfsr with s10 := w } } }),
   (0x12C, { s with eng := { s.eng with lfsr := { s.eng.lfsr with s11 := w } } }),
   (0x130, { s with eng := { s.eng with lfsr := { s.eng.lfsr with s12 := w } } }),
   (0x134, { s with eng := { s.eng with lfsr := { s.eng.lfsr with s13 := w } } }),
   (0x138, { s with eng := { s.eng with lfsr := { s.eng.lfsr with s14 := w } } }),
   (0x13C, { s with eng := { s.eng with lfsr := { s.eng.lfsr with s15 := w } } }),
   (0x140, { s with eng := { s.eng with fsm := { s.eng.fsm with r1 := w } } }),
   (0x144, { s with eng := { s.eng with fsm := { s.eng.fsm with r2 := w } } }),
   (0x148, { s with eng := { s.eng with fsm := { s.eng.fsm with r3 := w } } })]

/-- R22, R23: every plain RW register, as the host writes it. -/
def registerWrites (w : Word) (s : State) : List (Nat × State) :=
  controlWrites w s ++ operandWrites w s ++ resultWrites w s ++ engineWrites w s

/-- R255: what every register reads after power-on reset. -/
def resetWord (r : Reg) : Word := if r = .id then 0x534E3347 else 0

/-- R53: the commands that write RES. -/
def writesRes : Instr → Bool
  | .mulx _ _ | .mulxpow _ _ _ | .mulalpha _ | .divalpha _ | .mask8 _ | .mul64x | .mul64xpow _ | .mul64 | .sbox1 | .sbox2
  | .ksWord => true
  | _ => false

/-- R53: the commands that write S0..S15 or R1..R3. -/
def writesEngine : Instr → Bool
  | .fsmClk | .lfsrClkInit | .lfsrClkKs | .engLoad | .engInit | .ksWord | .ksGen _ | .f8Setup | .f8 | .f9Setup => true
  | _ => false

/-- R53: the commands that write ENGSTAT. -/
def writesEngstat : Instr → Bool
  | .engLoad | .engInit | .ksWord | .ksGen _ | .f8Setup | .f8 | .f9Setup => true
  | _ => false

/-- R53: the commands that write DBUF. -/
def writesDbuf : Instr → Bool
  | .ksGen _ | .f8 => true
  | _ => false

/-- R53: the commands that write EVAL and MACI. -/
def writesHash : Instr → Bool
  | .f9Hash | .f9Verify => true
  | _ => false

/-- R156: the keystream-mode feedback as the rule writes it, with its masks. -/
def feedback (l : Lfsr) : Word :=
  ((l.s0 <<< 8) &&& 0xFFFFFF00) ^^^ mulalpha (BitVec.ofNat 8 (l.s0.toNat / 2 ^ 24)) ^^^ l.s2 ^^^
    ((l.s11 >>> 8) &&& 0x00FFFFFF) ^^^ divalpha (BitVec.ofNat 8 (l.s11.toNat % 256))

/-- R155, R157: the LFSR after a clock that brings in `v`. -/
def shifted (l : Lfsr) (v : Word) : Lfsr :=
  { s0 := l.s1, s1 := l.s2, s2 := l.s3, s3 := l.s4, s4 := l.s5, s5 := l.s6, s6 := l.s7, s7 := l.s8, s8 := l.s9, s9 := l.s10,
    s10 := l.s11, s11 := l.s12, s12 := l.s13, s13 := l.s14, s14 := l.s15, s15 := v }

/-- R162: one initialisation round, an FSM clock whose output the LFSR clock folds in. -/
def round (e : Engine) : Engine :=
  { fsm := (fsmClock e).fsm
    lfsr := shifted e.lfsr (feedback e.lfsr ^^^ ((e.lfsr.s15 + e.fsm.r1) ^^^ e.fsm.r2)) }

/-- R167: one keystream clock, an FSM clock and an LFSR clock in keystream mode. -/
def tick (e : Engine) : Engine := { fsm := (fsmClock e).fsm, lfsr := shifted e.lfsr (feedback e.lfsr) }

/-- R162: the engine that Initialize leaves, 32 rounds from the loaded cells and a zero FSM. -/
def initialised (k iv : Quad) : Engine := round^[32] { lfsr := loadState k iv, fsm := { r1 := 0, r2 := 0, r3 := 0 } }

/-- R186, R201: the 128-bit key as the packed setups read it, k3 = KEY0 down to k0 = KEY3. -/
def packed (k : Quad) : Quad := { w3 := k.w0, w2 := k.w1, w1 := k.w2, w0 := k.w3 }

/-- R205, R206: the hash as one fold over the `ceil(L/64)` message blocks, then the length and the multiplication by Q. -/
def hashOf (s : State) : DWord :=
  let len := s.opr.len.toNat
  let data := memRead s s.opr.src.toNat ((len + 7) / 8)
  let blocks := (List.range ((len + 63) / 64)).map (messageBlock data len)
  mul64 (blocks.foldl (fun e m => mul64 (e ^^^ m) s.f9.p 0x1B) 0 ^^^ s.opr.len) s.f9.q 0x1B

end Sys2Proof.Spec

/-! ### Decoding and encoding -/

/-- Tier 3, encoding (30_encoding.md R86, R87, R93). -/
def Obligations.DecodeOfEncodeIsCommand : Prop := ∀ i : Instr, i.wf = true → decode (encode i) = .ok i

/-- Tier 3, encoding (R86, R90, R93): a word that decodes to a command is that command's word, and the command is well-formed. -/
def Obligations.EncodeOfDecodeIsWord : Prop := ∀ (w : Word) (i : Instr), decode w = .ok i → i.wf = true ∧ encode i = w

/-- Tier 2 (R86, R89 to R91): the words that the decoder calls illegal and reserved. -/
def Obligations.DecoderRefusesExactly : Prop :=
  ∀ w : Word,
    (decode w = .error .illegal ↔ Spec.unassigned w = true) ∧ (decode w = .error .reserved ↔ Spec.reservedBitSet w = true)

/-- Tier 1, R96: every encoding example of the spec, in both directions, and its three refused words. -/
def Obligations.SpecExampleWordsDecode : Prop :=
  (∀ p ∈ Spec.exampleWords, encode p.1 = p.2 ∧ decode p.2 = .ok p.1) ∧ decode 0x31000001 = .error .reserved ∧
    decode 0x10010000 = .error .reserved ∧ decode 0x02000000 = .error .illegal

/-! ### The step -/

/-- Tier 1 (20_memory.md R66, R90): the unit's turn runs the latched command. -/
def Obligations.StepRunsDecodedCommand : Prop :=
  ∀ (s : State) (w : Word) (i : Instr), s.pending = some w → decode w = .ok i →
    (s.host = [] → step s = exec i s) ∧ ∀ rest, s.host = .unitTurn :: rest → step s = exec i { s with host := rest }

/-- Tier 1 (R90, 60_exceptions.md R233, 70_reset_and_hazards.md R268): the unit's turn, with no event to come or as the next
event (log 1), with an undecodable word completes with its error; with no command it keeps the state (that a quiescent unit makes
a step at all is the model's choice, log 3). -/
def Obligations.StepWithoutCommand : Prop :=
  ∀ s : State,
    (s.pending = none →
      (s.host = [] → step s = .next s) ∧ ∀ rest, s.host = .unitTurn :: rest → step s = .next { s with host := rest }) ∧
    ∀ w e, s.pending = some w → decode w = .error e →
      let code := match e with
        | .illegal => ErrCode.illegal
        | .reserved => ErrCode.rsvd
      (s.host = [] → step s = .next (afterError code s)) ∧
      ∀ rest, s.host = .unitTurn :: rest → step s = .next (afterError code { s with host := rest })

/-- Tier 1 (00_scope.md R6, 20_memory.md R61): a host access at BASE + offset is an access at that offset, of whatever size and
alignment: that a run goes on after one that R63 and U3 call the host's fault is the model's reading (log 8, DEDUCED). One outside
the window stops the model (its choice, log 7). -/
def Obligations.StepPerformsHostAccess : Prop :=
  ∀ (s : State) (addr size : Nat) (rest : List HostEvent),
    (s.host = .read addr size :: rest →
      if s.cfg.base ≤ addr ∧ addr < s.cfg.base + 0x20000 then
        step s = .next (hostRead (addr - s.cfg.base) size { s with host := rest })
      else step s = .fault (.outsideWindow addr)) ∧
    ∀ w, s.host = .write addr size w :: rest →
      if s.cfg.base ≤ addr ∧ addr < s.cfg.base + 0x20000 then
        step s = .next (hostWrite (addr - s.cfg.base) size w { s with host := rest })
      else step s = .fault (.outsideWindow addr)

/-! ### Errors -/

/-- Tier 2, R233: a completion that raises an error changes nothing except STATUS (and consumes PENDING). -/
def Obligations.ErrorChangesOnlyStatus : Prop :=
  ∀ (w : Word) (s t : State), completion w s = .next t → t.status.errcode ≠ .ok → t = afterError t.status.errcode s

/-- Tier 2 (R66, R26, R230, R243): every command word completes in one step, announces it, and leaves ERR and OVERRUN sticky
(but for SRESET, which clears them). -/
def Obligations.EveryCommandWordCompletes : Prop :=
  ∀ (w : Word) (s : State), ∃ t, completion w s = .next t ∧ t.pending = none ∧ t.status.done = true ∧
    (decode w ≠ .ok .sreset →
      t.status.overrun = s.status.overrun ∧ t.status.err = (s.status.err || decide (t.status.errcode ≠ .ok)))

/-- Tier 2, R235: ERRCODE, bits 7:4 of STATUS, is the first error in the order E_ILLEGAL, E_RSVD, E_OPERAND, E_STATE, E_RANGE
whose cause (R231) applies. -/
def Obligations.ErrorPriority : Prop :=
  ∀ (w : Word) (s t : State), completion w s = .next t → BitVec.extractLsb' 4 4 (statusWord t) = Spec.firstError w s

/-! ### The host port -/

/-- Tier 1, R68: host writes while BUSY = 1. -/
def Obligations.BusyWriteIsDropped : Prop :=
  ∀ (s : State) (w : Word), busy s = true →
    (∀ r, r ≠ .ctrl → r ≠ .status → hostWrite (regOffset r) 32 w s =
      { s with rsp := some .accepted, status := { s.status with overrun := true } }) ∧
    (∀ j, 4 * j < s.cfg.dbufSize → hostWrite (0x10000 + 4 * j) 32 w s =
      { s with rsp := some .accepted, status := { s.status with overrun := true } }) ∧
    hostWrite 0x004 32 w s = { s with rsp := some .accepted, ctrl := { irqEn := w.getLsbD 0 } } ∧
    hostWrite 0x008 32 w s = { s with rsp := some .accepted, status := { s.status with
      done := s.status.done && !w.getLsbD 1, err := s.status.err && !w.getLsbD 2,
      overrun := s.status.overrun && !w.getLsbD 3 } }

/-- Tier 1 (10_state.md R52, U1): host reads while BUSY = 1. The unspecified word is the free value Config.busyRead. -/
def Obligations.BusyReadIsUnspecified : Prop :=
  ∀ s : State, busy s = true →
    (∀ r, r ≠ .id → r ≠ .ctrl → r ≠ .status → r ≠ .cmd → hostRead (regOffset r) 32 s =
      { s with rsp := some (.data (Config.busyRead s.draws)), draws := s.draws + 1 }) ∧
    (∀ j, 4 * j < s.cfg.dbufSize → hostRead (0x10000 + 4 * j) 32 s =
      { s with rsp := some (.data (Config.busyRead s.draws)), draws := s.draws + 1 }) ∧
    hostRead 0x000 32 s = { s with rsp := some (.data 0x534E3347) } ∧
    hostRead 0x004 32 s = { s with rsp := some (.data (if s.ctrl.irqEn then 1 else 0)) } ∧
    hostRead 0x008 32 s = { s with rsp := some (.data (statusWord s)) } ∧ (statusWord s).getLsbD 0 = true ∧
    hostRead 0x00C 32 s = { s with rsp := some (.data 0) }

/-- Tier 1 (20_memory.md R74): no host read changes any state of the unit, DBUF and STATUS among it. -/
def Obligations.ReadsHaveNoSideEffect : Prop :=
  ∀ (off size : Nat) (s : State), { hostRead off size s with rsp := s.rsp, draws := s.draws } = s

/-- Tier 1, R63: any other size, and any offset not a multiple of 4, is answered with err = 1 and changes nothing. -/
def Obligations.MisalignedAccessIsRefused : Prop :=
  ∀ (off size : Nat) (w : Word) (s : State), (size ≠ 32 ∨ off % 4 ≠ 0) →
    hostRead off size s = { s with rsp := some .busError } ∧ hostWrite off size w s = { s with rsp := some .busError }

/-- Tier 2, R62: the DBUF window packs big-endian; a write of word j leaves every byte outside its four alone. -/
def Obligations.DbufWindowPacksBigEndian : Prop :=
  ∀ (s : State) (j : Nat), busy s = false → 4 * j < s.cfg.dbufSize →
    hostRead (0x10000 + 4 * j) 32 s = { s with rsp := some (.data
      (be32 (dbufByte s (4 * j)) (dbufByte s (4 * j + 1)) (dbufByte s (4 * j + 2)) (dbufByte s (4 * j + 3)))) } ∧
    ∀ w : Word, ∃ m, hostWrite (0x10000 + 4 * j) 32 w s = { s with rsp := some .accepted, dbuf := m } ∧
      (∀ k, k < 4 → dbufByte { s with dbuf := m } (4 * j + k) = byteOf k w) ∧
      ∀ a, a < 4 * j ∨ 4 * j + 4 ≤ a → dbufByte { s with dbuf := m } a = dbufByte s a

/-- Tier 2 (10_state.md R22 to R45): the register map as the host reads it with BUSY = 0, offset by offset, each register from
its own part of the state; and every register of the model stands in that map, at one offset. -/
def Obligations.RegisterMapReads : Prop :=
  ∀ s : State, busy s = false →
    (∀ p ∈ Spec.registerReads s, hostRead p.1 32 s = { s with rsp := some (.data p.2) }) ∧
    (∀ r, hostRead (regOffset r) 32 s = { s with rsp := some (.data (readReg r s)) } ∧
      (regOffset r, readReg r s) ∈ Spec.registerReads s) ∧
    ((Spec.registerReads s).map Prod.fst).Nodup

/-- Tier 2 (R22, R23, R29 to R45): what a host write makes of each plain RW register, offset by offset; the register reads back
its implemented bits and no other register or byte of DBUF changes; a write of an RO register changes nothing. -/
def Obligations.RegisterReadAfterWrite : Prop :=
  ∀ (s : State) (w : Word), busy s = false →
    (∀ p ∈ Spec.registerWrites w s, hostWrite p.1 32 w s = { p.2 with rsp := some .accepted }) ∧
    (∀ r m, Spec.plainMask r = some m →
      regOffset r ∈ (Spec.registerWrites w s).map Prod.fst ∧
      readReg r (hostWrite (regOffset r) 32 w s) = w &&& m ∧
      (∀ r', r' ≠ r → readReg r' (hostWrite (regOffset r) 32 w s) = readReg r' s) ∧
      (hostWrite (regOffset r) 32 w s).pending = s.pending ∧ keepsDbuf s (hostWrite (regOffset r) 32 w s)) ∧
    ∀ off ∈ [0x000, 0x064, 0x088, 0x08C, 0x0A8, 0x0AC], hostWrite off 32 w s = { s with rsp := some .accepted }

/-- Tier 1 (R23, R28): a host write of ENGSTAT; STATE keeps its value when 3 is written. -/
def Obligations.EngstatWriteIsWarl : Prop :=
  ∀ (s : State) (w : Word), busy s = false →
    ∃ e, hostWrite 0x010 32 w s = { s with rsp := some .accepted, engstat := e } ∧
      engstatWord { s with engstat := e } =
        (w &&& 0xC) ||| (if w &&& 3 = 3 then engstatWord s &&& 3 else w &&& 3)

/-- Tier 1 (10_state.md R50, 20_memory.md R61): reserved offsets of the register window, and of the DBUF window beyond
DBUF_SIZE, read zero and ignore writes. -/
def Obligations.ReservedOffsetsReadZero : Prop :=
  ∀ (s : State) (off : Nat) (w : Word), busy s = false → off % 4 = 0 →
    ((off < 0x10000 ∧ ∀ r, regOffset r ≠ off) ∨ 0x10000 + s.cfg.dbufSize ≤ off) →
    hostRead off 32 s = { s with rsp := some (.data 0) } ∧ hostWrite off 32 w s = { s with rsp := some .accepted }

/-- Tier 1 (10_state.md R27, 20_memory.md R66): a CMD write with BUSY = 0 latches the word, sets BUSY and clears DONE. -/
def Obligations.CmdWriteIssuesCommand : Prop :=
  ∀ (s : State) (w : Word), busy s = false →
    hostWrite 0x00C 32 w s =
      { s with rsp := some .accepted, pending := some w, status := { s.status with done := false } } ∧
    busy (hostWrite 0x00C 32 w s) = true

/-- Tier 1 (45_control.md R224, 60_exceptions.md R240, R241): the W1C acknowledge, and the interrupt it drops. -/
def Obligations.AcknowledgeDropsInterrupt : Prop :=
  ∀ (s : State) (w : Word),
    hostWrite 0x008 32 w s = { s with rsp := some .accepted, status := { s.status with
      done := s.status.done && !w.getLsbD 1, err := s.status.err && !w.getLsbD 2,
      overrun := s.status.overrun && !w.getLsbD 3 } } ∧
    statusWord (hostWrite 0x008 32 w s) = statusWord s &&& ~~~(w &&& 0xE) ∧
    irq s = ((ctrlWord s).getLsbD 0 && ((statusWord s).getLsbD 1 || (statusWord s).getLsbD 2)) ∧
    (w &&& 6 = 6 → irq (hostWrite 0x008 32 w s) = false)

/-- Tier 2 (20_memory.md R68, R72, 70_reset_and_hazards.md R260): while BUSY = 1 no host access changes the latched word, an
operand, the engine, a result or a byte of DBUF. -/
def Obligations.HostCannotReachRunningCommand : Prop :=
  ∀ (s t : State) (e : HostEvent) (rest : List HostEvent), busy s = true → s.host = e :: rest → e ≠ .unitTurn →
    e ≠ .powerReset → step s = .next t →
    t.pending = s.pending ∧ t.opr = s.opr ∧ t.engstat = s.engstat ∧ t.cfg = s.cfg ∧ keepsRes s t ∧ keepsHash s t ∧
      keepsFreg s t ∧ keepsF9 s t ∧ keepsEngine s t ∧ keepsVok s t ∧ t.status.errcode = s.status.errcode ∧ keepsDbuf s t

/-- Tier 2 (30_encoding.md R95): WAIT polls STATUS until BUSY = 0. The polls that the running command's draw lets pass (log 19)
all see BUSY = 1, the last one sees BUSY = 0, and on an idle unit that one is the only one. -/
def Obligations.WaitPollsUntilIdle : Prop :=
  ∀ (s : State) (t : Timing), busy s = t.left.isSome → s.host = (timedWait s.cfg t).1 →
    (∀ k, k < t.left.getD 0 →
      ∃ u d, runSteps (k + 1) s = .next u ∧ u.rsp = some (.data d) ∧ d.getLsbD 0 = true ∧ u.pending = s.pending) ∧
    (s.host.filter (· ≠ .unitTurn)).length = t.left.getD 0 + 1 ∧
    ∃ u d, runSteps s.host.length s = .next u ∧ u.host = [] ∧ busy u = false ∧ u.rsp = some (.data d) ∧ d.getLsbD 0 = false

/-! ### Reset and control -/

/-- Tier 1 (70_reset_and_hazards.md R255, R256): the state after power-on reset, and after SRESET. DBUF is unspecified (U2): that
it is the free value at the model's power-cycle counter is log 5, and that the reset pin is an event of the list `host` is log 1. -/
def Obligations.ResetValues : Prop :=
  (∀ r, readReg r State.reset = Spec.resetWord r) ∧ State.reset.pending = none ∧ irq State.reset = false ∧
  (∀ a, dbufByte State.reset a = Config.powerOnByte State.reset.powerCycle a) ∧
  (∀ (s : State) (rest : List HostEvent), s.host = .powerReset :: rest →
    ∃ t, step s = .next t ∧ (∀ r, readReg r t = Spec.resetWord r) ∧ t.pending = none ∧ irq t = false ∧
      (∀ a, dbufByte t a = Config.powerOnByte t.powerCycle a) ∧ t.cfg = s.cfg ∧ t.host = rest) ∧
  ∀ s : State, ∃ t, exec .sreset s = .next t ∧ (∀ r, r ≠ .status → readReg r t = Spec.resetWord r) ∧
    statusWord t = 2 ∧ t.pending = none ∧ irq t = false ∧ keepsDbuf s t

/-- Tier 1 (45_control.md R222): SRESET's whole effect. -/
def Obligations.SresetResult : Prop :=
  ∀ s : State, ∃ t, exec .sreset s = .next t ∧ (∀ r, r ≠ .status → readReg r t = Spec.resetWord r) ∧ statusWord t = 2 ∧
    irq t = false ∧ keepsDbuf s t ∧ t.cfg = s.cfg ∧ t.host = s.host ∧ t.rsp = s.rsp ∧ t.draws = s.draws ∧
    t.powerCycle = s.powerCycle

/-- Tier 1 (R220, R221): NOP changes only STATUS: DONE = 1, ERRCODE = 0, BUSY = 0. -/
def Obligations.NopResult : Prop :=
  ∀ s : State, exec .nop s =
    .next { s with pending := none, status := { s.status with errcode := .ok, done := true } }

/-! ### Field arithmetic -/

/-- Tier 1 (40_field_arith.md R110, R112). -/
def Obligations.MulxResult : Prop :=
  ∀ (v c : Byte) (s : State), ∃ t, exec (.mulx v.toNat c.toNat) s = .next t ∧
    t.res = BitVec.ofNat 64 (if v.toNat < 128 then 2 * v.toNat else (2 * v.toNat % 256) ^^^ c.toNat) ∧
    succeeded s t ∧ keepsAllButRes s t

/-- Tier 2 (R113, R114): the result is `mulx` applied I times, zero-extended. -/
def Obligations.MulxpowResult : Prop :=
  ∀ (v c i : Byte) (s : State), ∃ t, exec (.mulxpow v.toNat c.toNat i.toNat) s = .next t ∧
    t.res = ((fun x => mulx x c)^[i.toNat] v).setWidth 64 ∧ succeeded s t ∧ keepsAllButRes s t

/-- Tier 2 (R115 to R118): the four bytes of MULALPHA and DIVALPHA, the first exponent in the most significant byte. -/
def Obligations.AlphaResults : Prop :=
  ∀ (v : Byte) (s : State),
    (∃ t, exec (.mulalpha v.toNat) s = .next t ∧ hiHalf t.res = 0 ∧
      byteOf 0 (loHalf t.res) = (fun x => mulx x 0xA9)^[23] v ∧ byteOf 1 (loHalf t.res) = (fun x => mulx x 0xA9)^[245] v ∧
      byteOf 2 (loHalf t.res) = (fun x => mulx x 0xA9)^[48] v ∧ byteOf 3 (loHalf t.res) = (fun x => mulx x 0xA9)^[239] v ∧
      succeeded s t ∧ keepsAllButRes s t) ∧
    ∃ t, exec (.divalpha v.toNat) s = .next t ∧ hiHalf t.res = 0 ∧
      byteOf 0 (loHalf t.res) = (fun x => mulx x 0xA9)^[16] v ∧ byteOf 1 (loHalf t.res) = (fun x => mulx x 0xA9)^[39] v ∧
      byteOf 2 (loHalf t.res) = (fun x => mulx x 0xA9)^[6] v ∧ byteOf 3 (loHalf t.res) = (fun x => mulx x 0xA9)^[64] v ∧
      succeeded s t ∧ keepsAllButRes s t

/-- Tier 1 (R125, R126): MASK8 for N in 0..8, and E_OPERAND with RES unchanged for every larger N. -/
def Obligations.MaskResult : Prop :=
  ∀ (n : Byte) (s : State),
    if n.toNat ≤ 8 then
      ∃ t, exec (.mask8 n.toNat) s = .next t ∧ t.res = BitVec.ofNat 64 (256 - 2 ^ (8 - n.toNat)) ∧ succeeded s t ∧
        keepsAllButRes s t
    else exec (.mask8 n.toNat) s = .next (afterError .operand s)

/-- Tier 2 (R119 to R122): MUL64X, and MUL64XPOW as `mul64x` applied I times. -/
def Obligations.DoublewordShiftResults : Prop :=
  ∀ (i : Byte) (s : State),
    (∃ t, exec .mul64x s = .next t ∧
      t.res = BitVec.ofNat 64 (if s.opr.opa.toNat < 2 ^ 63 then 2 * s.opr.opa.toNat
        else (2 * s.opr.opa.toNat % 2 ^ 64) ^^^ s.opr.opc.toNat) ∧
      succeeded s t ∧ keepsAllButRes s t) ∧
    ∃ t, exec (.mul64xpow i.toNat) s = .next t ∧ t.res = (fun x => mul64x x s.opr.opc)^[i.toNat] s.opr.opa ∧
      succeeded s t ∧ keepsAllButRes s t

/-- Tier 2 (R123, R124): the XOR of OPA·x^k over the set bits k of OPB. -/
def Obligations.ProductResult : Prop :=
  ∀ s : State, ∃ t, exec .mul64 s = .next t ∧
    t.res = ((List.range 64).map fun k =>
      if s.opr.opb.getLsbD k then (fun x => mul64x x s.opr.opc)^[k] s.opr.opa else 0).foldl (· ^^^ ·) 0 ∧
    succeeded s t ∧ keepsAllButRes s t

/-- Tier 2 (R127 laws 1 to 5). -/
def Obligations.FieldLaws : Prop :=
  (∀ a b c : Byte, mulx (a ^^^ b) c = mulx a c ^^^ mulx b c) ∧
  (∀ a b c : DWord, mul64x (a ^^^ b) c = mul64x a c ^^^ mul64x b c) ∧
  (∀ (a c : Byte) (i j : Nat), mulxpow (mulxpow a i c) j c = mulxpow a (i + j) c) ∧
  (∀ (a c : DWord) (i j : Nat), mul64xpow (mul64xpow a i c) j c = mul64xpow a (i + j) c) ∧
  (∀ a b : Byte, mulalpha (a ^^^ b) = mulalpha a ^^^ mulalpha b) ∧
  (∀ a b : Byte, divalpha (a ^^^ b) = divalpha a ^^^ divalpha b) ∧
  (∀ v p q d : DWord, mul64 v (p ^^^ q) d = mul64 v p d ^^^ mul64 v q d) ∧
  (∀ u v p d : DWord, mul64 (u ^^^ v) p d = mul64 u p d ^^^ mul64 v p d) ∧
  ∀ v p d : DWord, mul64 v 0 d = 0 ∧ mul64 v 1 d = v ∧ mul64 1 p d = p

/-- Tier 2 (R127 law 6). -/
def Obligations.ProductCommutes : Prop := ∀ v p d : DWord, mul64 v p d = mul64 p v d

/-! ### S-boxes and FSM -/

/-- Tier 1 (41_sbox_fsm.md R140, R141, R143, R144): SBOX1 and SBOX2, row by row of the diffusion matrix. -/
def Obligations.SboxResults : Prop :=
  ∀ s : State,
    (∃ t, exec .sbox1 s = .next t ∧ hiHalf t.res = 0 ∧
      (let b := fun j => sboxR (byteOf j (loHalf s.opr.opa))
       let m := fun j => mulx (b j) 0x1B
       byteOf 0 (loHalf t.res) = m 0 ^^^ b 1 ^^^ b 2 ^^^ (m 3 ^^^ b 3) ∧
       byteOf 1 (loHalf t.res) = (m 0 ^^^ b 0) ^^^ m 1 ^^^ b 2 ^^^ b 3 ∧
       byteOf 2 (loHalf t.res) = b 0 ^^^ (m 1 ^^^ b 1) ^^^ m 2 ^^^ b 3 ∧
       byteOf 3 (loHalf t.res) = b 0 ^^^ b 1 ^^^ (m 2 ^^^ b 2) ^^^ m 3) ∧
      succeeded s t ∧ keepsAllButRes s t) ∧
    ∃ t, exec .sbox2 s = .next t ∧ hiHalf t.res = 0 ∧
      (let b := fun j => sboxQ (byteOf j (loHalf s.opr.opa))
       let m := fun j => mulx (b j) 0x69
       byteOf 0 (loHalf t.res) = m 0 ^^^ b 1 ^^^ b 2 ^^^ (m 3 ^^^ b 3) ∧
       byteOf 1 (loHalf t.res) = (m 0 ^^^ b 0) ^^^ m 1 ^^^ b 2 ^^^ b 3 ∧
       byteOf 2 (loHalf t.res) = b 0 ^^^ (m 1 ^^^ b 1) ^^^ m 2 ^^^ b 3 ∧
       byteOf 3 (loHalf t.res) = b 0 ^^^ b 1 ^^^ (m 2 ^^^ b 2) ^^^ m 3) ∧
      succeeded s t ∧ keepsAllButRes s t

/-- Tier 2, R142: S1 and S2 are bijections on words, the byte S-boxes on bytes, and the diffusion step is invertible for both
constants. -/
def Obligations.SubstitutionsAreBijective : Prop :=
  Function.Bijective sbox1Word ∧ Function.Bijective sbox2Word ∧ Function.Bijective sboxR ∧ Function.Bijective sboxQ ∧
  ∀ c : Byte, c = 0x1B ∨ c = 0x69 →
    Function.Bijective fun b : Byte × Byte × Byte × Byte => mixColumn b.1 b.2.1 b.2.2.1 b.2.2.2 c

/-- Tier 1 (R136, R138): the printed tables are what the spec's formulas generate. -/
def Obligations.TablesMatchFormulas : Prop :=
  (∀ a b : Byte, gfMul a b 0x1B = 1 → sboxR a = srAffine b) ∧ sboxR 0 = srAffine 0 ∧
  (∀ a : Byte, a ≠ 0 → ∃ b, gfMul a b 0x1B = 1) ∧ ∀ a : Byte, sboxQ a = dickson49 a ^^^ 0x25

/-- Tier 1 (R145 to R147): FSM_CLK. -/
def Obligations.FsmClockResult : Prop :=
  ∀ s : State, ∃ t, exec .fsmClk s = .next t ∧
    t.freg = BitVec.ofNat 32 ((s.eng.lfsr.s15.toNat + s.eng.fsm.r1.toNat) % 2 ^ 32) ^^^ s.eng.fsm.r2 ∧
    t.eng.fsm.r1 = BitVec.ofNat 32 ((s.eng.fsm.r2.toNat + (s.eng.fsm.r3 ^^^ s.eng.lfsr.s5).toNat) % 2 ^ 32) ∧
    t.eng.fsm.r2 = sbox1Word s.eng.fsm.r1 ∧ t.eng.fsm.r3 = sbox2Word s.eng.fsm.r2 ∧ t.eng.lfsr = s.eng.lfsr ∧
    succeeded s t ∧ keepsControl s t ∧ keepsVok s t ∧ keepsRes s t ∧ keepsHash s t ∧ keepsF9 s t ∧ keepsEngstat s t ∧
    keepsDbuf s t

/-! ### LFSR, engine and keystream -/

/-- Tier 1 (42_lfsr_engine.md R155 to R159): both LFSR clocks. -/
def Obligations.LfsrClockResults : Prop :=
  ∀ s : State,
    (∃ t, exec .lfsrClkKs s = .next t ∧ t.eng.lfsr = Spec.shifted s.eng.lfsr (Spec.feedback s.eng.lfsr) ∧
      t.eng.fsm = s.eng.fsm ∧ succeeded s t ∧ keepsAllButEngine s t ∧ keepsEngstat s t) ∧
    ∃ t, exec .lfsrClkInit s = .next t ∧ t.eng.lfsr = Spec.shifted s.eng.lfsr (Spec.feedback s.eng.lfsr ^^^ s.freg) ∧
      t.eng.fsm = s.eng.fsm ∧ succeeded s t ∧ keepsAllButEngine s t ∧ keepsEngstat s t

/-- Tier 1 (R160, R163): ENG_LOAD. -/
def Obligations.EngineLoadResult : Prop :=
  ∀ s : State, ∃ t, exec .engLoad s = .next t ∧
    t.eng.lfsr =
      { s15 := s.opr.key.w3 ^^^ s.opr.iv.w0, s14 := s.opr.key.w2, s13 := s.opr.key.w1, s12 := s.opr.key.w0 ^^^ s.opr.iv.w1,
        s11 := s.opr.key.w3 ^^^ 0xFFFFFFFF, s10 := s.opr.key.w2 ^^^ 0xFFFFFFFF ^^^ s.opr.iv.w2,
        s9 := s.opr.key.w1 ^^^ 0xFFFFFFFF ^^^ s.opr.iv.w3, s8 := s.opr.key.w0 ^^^ 0xFFFFFFFF,
        s7 := s.opr.key.w3, s6 := s.opr.key.w2, s5 := s.opr.key.w1, s4 := s.opr.key.w0,
        s3 := s.opr.key.w3 ^^^ 0xFFFFFFFF, s2 := s.opr.key.w2 ^^^ 0xFFFFFFFF, s1 := s.opr.key.w1 ^^^ 0xFFFFFFFF,
        s0 := s.opr.key.w0 ^^^ 0xFFFFFFFF } ∧
    t.eng.fsm = { r1 := 0, r2 := 0, r3 := 0 } ∧ t.engstat.state = .initializing ∧ t.engstat.primed = false ∧
    succeeded s t ∧ keepsAllButEngine s t

/-- Tier 2, R162: ENG_INIT is `Initialize` of KEY and IV, whatever the engine held before. -/
def Obligations.EngineInitResult : Prop :=
  ∀ s : State, ∃ t, exec .engInit s = .next t ∧ t.eng = Spec.initialised s.opr.key s.opr.iv ∧
    t.engstat.state = .streaming ∧ t.engstat.primed = false ∧ succeeded s t ∧ keepsAllButEngine s t

/-- Tier 2, R164: initialisation by hand. -/
def Obligations.InitialisationByHand : Prop :=
  ∀ (s : State) (w : Word), w &&& 7 = 2 →
    ∃ l t u, exec .engLoad s = .next l ∧
      execAll (List.replicate 32 [Instr.fsmClk, .lfsrClkInit]).flatten l = .next t ∧ exec .engInit s = .next u ∧
      (hostWrite 0x010 32 w t).eng = u.eng ∧ (hostWrite 0x010 32 w t).engstat.state = u.engstat.state ∧
      (hostWrite 0x010 32 w t).engstat.primed = u.engstat.primed ∧
      (hostWrite 0x010 32 w t).freg = fsmOutput (Spec.round^[31] l.eng)

/-- Tier 2 (R167, R168, R170, R171): KS_WORD in a streaming state. -/
def Obligations.KeystreamWordResult : Prop :=
  ∀ s : State, s.engstat.state = .streaming → ∃ t, exec .ksWord s = .next t ∧
    (let e := if s.engstat.primed then s.eng else Spec.tick s.eng
     t.res = (((e.lfsr.s15 + e.fsm.r1) ^^^ e.fsm.r2) ^^^ e.lfsr.s0).setWidth 64 ∧ t.eng = Spec.tick e) ∧
    t.engstat = { s.engstat with primed := true } ∧ succeeded s t ∧ keepsControl s t ∧ keepsVok s t ∧ keepsHash s t ∧
    keepsFreg s t ∧ keepsF9 s t ∧ keepsDbuf s t

/-- Tier 2 (R167, R173, R174): KS_GEN in a streaming state with its range in DBUF. -/
def Obligations.KeystreamGenResult : Prop :=
  ∀ (n : BitVec 16) (s : State), s.engstat.state = .streaming → dstOffset s + 4 * n.toNat ≤ s.cfg.dbufSize →
    ∃ t, exec (.ksGen n.toNat) s = .next t ∧
      (∀ k j, k < n.toNat → j < 4 → dbufByte t (dstOffset s + 4 * k + j) = byteOf j (nextWord s k)) ∧
      (∀ a, a < dstOffset s ∨ dstOffset s + 4 * n.toNat ≤ a → dbufByte t a = dbufByte s a) ∧
      t.eng = (if n = 0 then s.eng else ksClock^[n.toNat] (primedEngine s)) ∧
      t.engstat = { s.engstat with primed := s.engstat.primed || decide (n ≠ 0) } ∧ succeeded s t ∧ keepsControl s t ∧
      keepsVok s t ∧ keepsRes s t ∧ keepsHash s t ∧ keepsFreg s t ∧ keepsF9 s t

/-- Tier 2, R169: the continuation law of KeystreamWords. -/
def Obligations.KeystreamContinues : Prop :=
  ∀ (a b : Nat) (e : Engine) (p : Bool),
    let x := keystreamWords a e p
    let y := keystreamWords b x.eng x.primed
    let z := keystreamWords (a + b) e p
    z.words = x.words ++ y.words ∧ z.eng = y.eng ∧ z.primed = y.primed

/-- Tier 2 (R169, R173): KS_GEN of a words and then of b, the second just after the first in DBUF, is KS_GEN of a + b. -/
def Obligations.KeystreamGenSplits : Prop :=
  ∀ (a b : Nat) (s : State), s.engstat.state = .streaming → dstOffset s + 4 * (a + b) ≤ s.cfg.dbufSize →
    ∃ t u v, exec (.ksGen a) s = .next t ∧
      exec (.ksGen b) { t with opr := { t.opr with dst := s.opr.dst + BitVec.ofNat 32 (4 * a) } } = .next u ∧
      exec (.ksGen (a + b)) s = .next v ∧
      succeeded s t ∧ succeeded s u ∧ u.eng = v.eng ∧ u.engstat = v.engstat ∧ ∀ x, dbufByte u x = dbufByte v x

/-- Tier 1, R172: the keystream state check. F8 checks LEN_HI before it (R235). -/
def Obligations.KeystreamNeedsStream : Prop :=
  ∀ (s : State) (n : BitVec 16), s.engstat.state ≠ .streaming →
    exec .ksWord s = .next (afterError .state s) ∧ exec (.ksGen n.toNat) s = .next (afterError .state s) ∧
    exec .f8 s = .next (afterError (if hiHalf s.opr.len = 0 then .state else .operand) s)

/-! ### UEA2 -/

/-- Tier 1 (43_f8.md R186, R187; 42_lfsr_engine.md R162): F8_SETUP. -/
def Obligations.CipherSetupResult : Prop :=
  ∀ s : State, ∃ t, exec .f8Setup s = .next t ∧
    (let w := BitVec.ofNat 32 (s.opr.bearer.toNat * 2 ^ 27 + s.opr.direction.toNat * 2 ^ 26)
     t.eng = Spec.initialised (Spec.packed s.opr.key) { w0 := w, w1 := s.opr.count, w2 := w, w3 := s.opr.count }) ∧
    t.engstat.state = .streaming ∧ t.engstat.primed = false ∧ succeeded s t ∧ keepsAllButEngine s t

/-- Tier 2 (43_f8.md R188 to R191, 20_memory.md R76): F8 on a bit length that fits LEN_LO, with both ranges in DBUF. -/
def Obligations.CipherResult : Prop :=
  ∀ s : State,
    let len := s.opr.len.toNat
    let nb := (len + 7) / 8
    let n := (len + 31) / 32
    len < 2 ^ 32 → s.engstat.state = .streaming → srcOffset s + nb ≤ s.cfg.dbufSize →
    dstOffset s + 4 * n ≤ s.cfg.dbufSize →
    ∃ t, exec .f8 s = .next t ∧
      (∀ i, i < 4 * n → dbufByte t (dstOffset s + i) =
        if nb ≤ i then 0
        else if i + 1 = nb ∧ len % 8 ≠ 0 then
          (dbufByte s (srcOffset s + i) ^^^ byteOf (i % 4) (nextWord s (i / 4))) &&& BitVec.ofNat 8 (256 - 2 ^ (8 - len % 8))
        else dbufByte s (srcOffset s + i) ^^^ byteOf (i % 4) (nextWord s (i / 4))) ∧
      (∀ a, a < dstOffset s ∨ dstOffset s + 4 * n ≤ a → dbufByte t a = dbufByte s a) ∧
      t.eng = (if len = 0 then s.eng else ksClock^[n] (primedEngine s)) ∧
      t.engstat = { s.engstat with primed := s.engstat.primed || decide (len ≠ 0) } ∧ succeeded s t ∧ keepsControl s t ∧
      keepsVok s t ∧ keepsRes s t ∧ keepsHash s t ∧ keepsFreg s t ∧ keepsF9 s t

/-- Tier 2, R192: within the 4n bytes that F8 writes, output bit j is 0 for every j ≥ L. -/
def Obligations.CipherMasksBeyondLength : Prop :=
  ∀ (s t : State) (j : Nat), exec .f8 s = .next t → t.status.errcode = .ok →
    s.opr.len.toNat ≤ j → j < 32 * ((s.opr.len.toNat + 31) / 32) → messageBit t (dstOffset s) j = false

/-- Tier 2 (43_f8.md R193): F8 inverts F8 from the same engine context, up to the masked bits. -/
def Obligations.CipherInvertsItself : Prop :=
  ∀ (s t : State) (d : Word), exec .f8 s = .next t → t.status.errcode = .ok →
    d.toNat + 4 * ((s.opr.len.toNat + 31) / 32) ≤ s.cfg.dbufSize →
    ∃ v, exec .f8 { t with eng := s.eng, engstat := s.engstat, opr := { t.opr with src := s.opr.dst, dst := d } } = .next v ∧
      v.status.errcode = .ok ∧
      (∀ j, j < s.opr.len.toNat → messageBit v d.toNat j = messageBit s (srcOffset s) j) ∧
      ∀ j, s.opr.len.toNat ≤ j → j < 32 * ((s.opr.len.toNat + 31) / 32) → messageBit v d.toNat j = false

/-! ### UIA2 -/

/-- Tier 2 (44_f9.md R201 to R203): F9_SETUP. -/
def Obligations.IntegritySetupResult : Prop :=
  ∀ s : State, ∃ t, exec .f9Setup s = .next t ∧
    (let e := Spec.tick (Spec.initialised (Spec.packed s.opr.key)
        { w0 := s.opr.fresh ^^^ (if s.opr.direction = 1 then 0x00008000 else 0)
          w1 := s.opr.count ^^^ (if s.opr.direction = 1 then 0x80000000 else 0)
          w2 := s.opr.fresh, w3 := s.opr.count })
     let z := fun k => ksOutput (Spec.tick^[k] e)
     t.f9 = { p := z 0 ++ z 1, q := z 2 ++ z 3, z5 := z 4 } ∧ t.eng = Spec.tick^[5] e) ∧
    t.engstat = { state := .streaming, primed := true, f9valid := true } ∧ succeeded s t ∧ keepsControl s t ∧
    keepsVok s t ∧ keepsRes s t ∧ keepsHash s t ∧ keepsFreg s t ∧ keepsDbuf s t

/-- Tier 2 (R204, R205): there are ceil(L/64) message blocks, and bit k of block i, counted from the most significant, is
message bit 64 i + k, or 0 at and beyond bit L. -/
def Obligations.MessageBlocksAreMessageBits : Prop :=
  ∀ (s : State) (a len : Nat),
    (messageBlocks (memRead s a ((len + 7) / 8)) len).length = (len + 63) / 64 ∧
    ∀ i k, i < (len + 63) / 64 → k < 64 →
      ((messageBlocks (memRead s a ((len + 7) / 8)) len).getD i 0).getLsbD (63 - k) =
        (decide (64 * i + k < len) && messageBit s a (64 * i + k))

/-- Tier 2 (R204, R206 to R208): F9_HASH with a valid context and its message in DBUF. -/
def Obligations.HashResult : Prop :=
  ∀ s : State, s.engstat.f9valid = true → srcOffset s + (s.opr.len.toNat + 7) / 8 ≤ s.cfg.dbufSize →
    ∃ t, exec .f9Hash s = .next t ∧ t.eval = Spec.hashOf s ∧ t.maci = hiHalf (Spec.hashOf s) ^^^ s.f9.z5 ∧
      succeeded s t ∧ keepsControl s t ∧ keepsVok s t ∧ keepsRes s t ∧ keepsFreg s t ∧ keepsF9 s t ∧ keepsEngine s t ∧
      keepsEngstat s t ∧ keepsDbuf s t

/-- Tier 2 (R210, R211): F9_VERIFY computes as F9_HASH, and VOK (bit 8 of STATUS) says whether MACI = TAG; a mismatch is no
error. -/
def Obligations.VerifyResult : Prop :=
  ∀ s : State, s.engstat.f9valid = true → srcOffset s + (s.opr.len.toNat + 7) / 8 ≤ s.cfg.dbufSize →
    ∃ h t, exec .f9Hash s = .next h ∧ exec .f9Verify s = .next t ∧ t.eval = h.eval ∧ t.maci = h.maci ∧
      (statusWord t).getLsbD 8 = decide (t.maci = s.opr.tag) ∧ succeeded s t ∧ keepsControl s t ∧ keepsRes s t ∧
      keepsFreg s t ∧ keepsF9 s t ∧ keepsEngine s t ∧ keepsEngstat s t ∧ keepsDbuf s t

/-- Tier 2 (R206, R207): for L = 0, EVAL = 0 and MACI = Z5, whatever the context. -/
def Obligations.EmptyMessageHash : Prop :=
  ∀ s : State, s.engstat.f9valid = true → s.opr.len = 0 → srcOffset s ≤ s.cfg.dbufSize →
    ∃ t, exec .f9Hash s = .next t ∧ t.eval = 0 ∧ t.maci = s.f9.z5 ∧ succeeded s t

/-- Tier 2 (R200, R205, R208, R212): the MAC-I depends on the context, the bit length and the first L message bits alone. -/
def Obligations.HashDependsOnlyOnMessage : Prop :=
  ∀ s s' t : State, exec .f9Hash s = .next t → t.status.errcode = .ok → s'.f9 = s.f9 → s'.engstat.f9valid = true →
    s'.opr.len = s.opr.len → srcOffset s' + (s'.opr.len.toNat + 7) / 8 ≤ s'.cfg.dbufSize →
    (∀ j, j < s.opr.len.toNat → messageBit s' (srcOffset s') j = messageBit s (srcOffset s) j) →
    ∃ t', exec .f9Hash s' = .next t' ∧ t'.eval = t.eval ∧ t'.maci = t.maci ∧ t'.status.errcode = .ok

/-! ### The whole machine -/

/-- Tier 2 (10_state.md R53; R29 to R42): what each command but SRESET leaves alone, on success and on error. -/
def Obligations.CommandsWriteOnlyTheirRegisters : Prop :=
  ∀ (i : Instr) (s t : State), exec i s = .next t → i ≠ .sreset →
    keepsControl s t ∧
    (Spec.writesRes i = false → keepsRes s t) ∧
    (Spec.writesEngine i = false → keepsEngine s t) ∧
    (Spec.writesEngstat i = false → keepsEngstat s t) ∧
    (Spec.writesDbuf i = false → keepsDbuf s t) ∧
    (Spec.writesHash i = false → keepsHash s t) ∧
    (i ≠ .fsmClk → keepsFreg s t) ∧
    (i ≠ .f9Setup → keepsF9 s t ∧ t.engstat.f9valid = s.engstat.f9valid) ∧
    (i ≠ .f9Verify → keepsVok s t)

/-- Tier 3 (10_state.md R46, 45_control.md R224): every step keeps the invariant, from every state that has it. -/
def Obligations.StepKeepsInvariant : Prop := ∀ s t : State, Inv s → step s = .next t → Inv t

/-- Tier 1: the reset state has the invariant. -/
def Obligations.ResetHasInvariant : Prop := Inv State.reset
end

