-- ==== Sys2Proof/Laws/State.lean ====
section
/-! SUPPORT. One lemma per field of State per update, each true by rfl: no later proof unfolds a record update. -/

namespace Sys2Proof.Laws

open Sys2Proof.Machine

/-! ### complete -/

@[simp] theorem complete_cfg (code : ErrCode) (s : State) : (complete code s).cfg = s.cfg := rfl
@[simp] theorem complete_ctrl (code : ErrCode) (s : State) : (complete code s).ctrl = s.ctrl := rfl
@[simp] theorem complete_status (code : ErrCode) (s : State) : (complete code s).status = { s.status with errcode := code, err := s.status.err || decide (code ≠ .ok), done := true } := rfl
@[simp] theorem complete_pending (code : ErrCode) (s : State) : (complete code s).pending = none := rfl
@[simp] theorem complete_engstat (code : ErrCode) (s : State) : (complete code s).engstat = s.engstat := rfl
@[simp] theorem complete_opr (code : ErrCode) (s : State) : (complete code s).opr = s.opr := rfl
@[simp] theorem complete_maci (code : ErrCode) (s : State) : (complete code s).maci = s.maci := rfl
@[simp] theorem complete_res (code : ErrCode) (s : State) : (complete code s).res = s.res := rfl
@[simp] theorem complete_eval (code : ErrCode) (s : State) : (complete code s).eval = s.eval := rfl
@[simp] theorem complete_freg (code : ErrCode) (s : State) : (complete code s).freg = s.freg := rfl
@[simp] theorem complete_f9 (code : ErrCode) (s : State) : (complete code s).f9 = s.f9 := rfl
@[simp] theorem complete_eng (code : ErrCode) (s : State) : (complete code s).eng = s.eng := rfl
@[simp] theorem complete_dbuf (code : ErrCode) (s : State) : (complete code s).dbuf = s.dbuf := rfl
@[simp] theorem complete_host (code : ErrCode) (s : State) : (complete code s).host = s.host := rfl
@[simp] theorem complete_rsp (code : ErrCode) (s : State) : (complete code s).rsp = s.rsp := rfl
@[simp] theorem complete_draws (code : ErrCode) (s : State) : (complete code s).draws = s.draws := rfl
@[simp] theorem complete_powerCycle (code : ErrCode) (s : State) : (complete code s).powerCycle = s.powerCycle := rfl

/-! ### issueCommand -/

@[simp] theorem issueCommand_cfg (w : Word) (s : State) : (issueCommand w s).cfg = s.cfg := rfl
@[simp] theorem issueCommand_ctrl (w : Word) (s : State) : (issueCommand w s).ctrl = s.ctrl := rfl
@[simp] theorem issueCommand_status (w : Word) (s : State) : (issueCommand w s).status = { s.status with done := false } := rfl
@[simp] theorem issueCommand_pending (w : Word) (s : State) : (issueCommand w s).pending = some w := rfl
@[simp] theorem issueCommand_engstat (w : Word) (s : State) : (issueCommand w s).engstat = s.engstat := rfl
@[simp] theorem issueCommand_opr (w : Word) (s : State) : (issueCommand w s).opr = s.opr := rfl
@[simp] theorem issueCommand_maci (w : Word) (s : State) : (issueCommand w s).maci = s.maci := rfl
@[simp] theorem issueCommand_res (w : Word) (s : State) : (issueCommand w s).res = s.res := rfl
@[simp] theorem issueCommand_eval (w : Word) (s : State) : (issueCommand w s).eval = s.eval := rfl
@[simp] theorem issueCommand_freg (w : Word) (s : State) : (issueCommand w s).freg = s.freg := rfl
@[simp] theorem issueCommand_f9 (w : Word) (s : State) : (issueCommand w s).f9 = s.f9 := rfl
@[simp] theorem issueCommand_eng (w : Word) (s : State) : (issueCommand w s).eng = s.eng := rfl
@[simp] theorem issueCommand_dbuf (w : Word) (s : State) : (issueCommand w s).dbuf = s.dbuf := rfl
@[simp] theorem issueCommand_host (w : Word) (s : State) : (issueCommand w s).host = s.host := rfl
@[simp] theorem issueCommand_rsp (w : Word) (s : State) : (issueCommand w s).rsp = s.rsp := rfl
@[simp] theorem issueCommand_draws (w : Word) (s : State) : (issueCommand w s).draws = s.draws := rfl
@[simp] theorem issueCommand_powerCycle (w : Word) (s : State) : (issueCommand w s).powerCycle = s.powerCycle := rfl

/-! ### acknowledge -/

@[simp] theorem acknowledge_cfg (w : Word) (s : State) : (acknowledge w s).cfg = s.cfg := rfl
@[simp] theorem acknowledge_ctrl (w : Word) (s : State) : (acknowledge w s).ctrl = s.ctrl := rfl
@[simp] theorem acknowledge_status (w : Word) (s : State) : (acknowledge w s).status = { s.status with done := s.status.done && !w.getLsbD 1, err := s.status.err && !w.getLsbD 2, overrun := s.status.overrun && !w.getLsbD 3 } := rfl
@[simp] theorem acknowledge_pending (w : Word) (s : State) : (acknowledge w s).pending = s.pending := rfl
@[simp] theorem acknowledge_engstat (w : Word) (s : State) : (acknowledge w s).engstat = s.engstat := rfl
@[simp] theorem acknowledge_opr (w : Word) (s : State) : (acknowledge w s).opr = s.opr := rfl
@[simp] theorem acknowledge_maci (w : Word) (s : State) : (acknowledge w s).maci = s.maci := rfl
@[simp] theorem acknowledge_res (w : Word) (s : State) : (acknowledge w s).res = s.res := rfl
@[simp] theorem acknowledge_eval (w : Word) (s : State) : (acknowledge w s).eval = s.eval := rfl
@[simp] theorem acknowledge_freg (w : Word) (s : State) : (acknowledge w s).freg = s.freg := rfl
@[simp] theorem acknowledge_f9 (w : Word) (s : State) : (acknowledge w s).f9 = s.f9 := rfl
@[simp] theorem acknowledge_eng (w : Word) (s : State) : (acknowledge w s).eng = s.eng := rfl
@[simp] theorem acknowledge_dbuf (w : Word) (s : State) : (acknowledge w s).dbuf = s.dbuf := rfl
@[simp] theorem acknowledge_host (w : Word) (s : State) : (acknowledge w s).host = s.host := rfl
@[simp] theorem acknowledge_rsp (w : Word) (s : State) : (acknowledge w s).rsp = s.rsp := rfl
@[simp] theorem acknowledge_draws (w : Word) (s : State) : (acknowledge w s).draws = s.draws := rfl
@[simp] theorem acknowledge_powerCycle (w : Word) (s : State) : (acknowledge w s).powerCycle = s.powerCycle := rfl

/-! ### setOverrun -/

@[simp] theorem setOverrun_cfg (s : State) : (setOverrun s).cfg = s.cfg := rfl
@[simp] theorem setOverrun_ctrl (s : State) : (setOverrun s).ctrl = s.ctrl := rfl
@[simp] theorem setOverrun_status (s : State) : (setOverrun s).status = { s.status with overrun := true } := rfl
@[simp] theorem setOverrun_pending (s : State) : (setOverrun s).pending = s.pending := rfl
@[simp] theorem setOverrun_engstat (s : State) : (setOverrun s).engstat = s.engstat := rfl
@[simp] theorem setOverrun_opr (s : State) : (setOverrun s).opr = s.opr := rfl
@[simp] theorem setOverrun_maci (s : State) : (setOverrun s).maci = s.maci := rfl
@[simp] theorem setOverrun_res (s : State) : (setOverrun s).res = s.res := rfl
@[simp] theorem setOverrun_eval (s : State) : (setOverrun s).eval = s.eval := rfl
@[simp] theorem setOverrun_freg (s : State) : (setOverrun s).freg = s.freg := rfl
@[simp] theorem setOverrun_f9 (s : State) : (setOverrun s).f9 = s.f9 := rfl
@[simp] theorem setOverrun_eng (s : State) : (setOverrun s).eng = s.eng := rfl
@[simp] theorem setOverrun_dbuf (s : State) : (setOverrun s).dbuf = s.dbuf := rfl
@[simp] theorem setOverrun_host (s : State) : (setOverrun s).host = s.host := rfl
@[simp] theorem setOverrun_rsp (s : State) : (setOverrun s).rsp = s.rsp := rfl
@[simp] theorem setOverrun_draws (s : State) : (setOverrun s).draws = s.draws := rfl
@[simp] theorem setOverrun_powerCycle (s : State) : (setOverrun s).powerCycle = s.powerCycle := rfl

/-! ### memWrite -/

@[simp] theorem memWrite_cfg (a : Nat) (bs : List Byte) (s : State) : (memWrite a bs s).cfg = s.cfg := rfl
@[simp] theorem memWrite_ctrl (a : Nat) (bs : List Byte) (s : State) : (memWrite a bs s).ctrl = s.ctrl := rfl
@[simp] theorem memWrite_status (a : Nat) (bs : List Byte) (s : State) : (memWrite a bs s).status = s.status := rfl
@[simp] theorem memWrite_pending (a : Nat) (bs : List Byte) (s : State) : (memWrite a bs s).pending = s.pending := rfl
@[simp] theorem memWrite_engstat (a : Nat) (bs : List Byte) (s : State) : (memWrite a bs s).engstat = s.engstat := rfl
@[simp] theorem memWrite_opr (a : Nat) (bs : List Byte) (s : State) : (memWrite a bs s).opr = s.opr := rfl
@[simp] theorem memWrite_maci (a : Nat) (bs : List Byte) (s : State) : (memWrite a bs s).maci = s.maci := rfl
@[simp] theorem memWrite_res (a : Nat) (bs : List Byte) (s : State) : (memWrite a bs s).res = s.res := rfl
@[simp] theorem memWrite_eval (a : Nat) (bs : List Byte) (s : State) : (memWrite a bs s).eval = s.eval := rfl
@[simp] theorem memWrite_freg (a : Nat) (bs : List Byte) (s : State) : (memWrite a bs s).freg = s.freg := rfl
@[simp] theorem memWrite_f9 (a : Nat) (bs : List Byte) (s : State) : (memWrite a bs s).f9 = s.f9 := rfl
@[simp] theorem memWrite_eng (a : Nat) (bs : List Byte) (s : State) : (memWrite a bs s).eng = s.eng := rfl
@[simp] theorem memWrite_dbuf (a : Nat) (bs : List Byte) (s : State) : (memWrite a bs s).dbuf = setCells a bs s.dbuf := rfl
@[simp] theorem memWrite_host (a : Nat) (bs : List Byte) (s : State) : (memWrite a bs s).host = s.host := rfl
@[simp] theorem memWrite_rsp (a : Nat) (bs : List Byte) (s : State) : (memWrite a bs s).rsp = s.rsp := rfl
@[simp] theorem memWrite_draws (a : Nat) (bs : List Byte) (s : State) : (memWrite a bs s).draws = s.draws := rfl
@[simp] theorem memWrite_powerCycle (a : Nat) (bs : List Byte) (s : State) : (memWrite a bs s).powerCycle = s.powerCycle := rfl

/-! ### resetRegisters -/

@[simp] theorem resetRegisters_cfg (s : State) : (resetRegisters s).cfg = s.cfg := rfl
@[simp] theorem resetRegisters_ctrl (s : State) : (resetRegisters s).ctrl = State.reset.ctrl := rfl
@[simp] theorem resetRegisters_status (s : State) : (resetRegisters s).status = State.reset.status := rfl
@[simp] theorem resetRegisters_pending (s : State) : (resetRegisters s).pending = s.pending := rfl
@[simp] theorem resetRegisters_engstat (s : State) : (resetRegisters s).engstat = State.reset.engstat := rfl
@[simp] theorem resetRegisters_opr (s : State) : (resetRegisters s).opr = State.reset.opr := rfl
@[simp] theorem resetRegisters_maci (s : State) : (resetRegisters s).maci = State.reset.maci := rfl
@[simp] theorem resetRegisters_res (s : State) : (resetRegisters s).res = State.reset.res := rfl
@[simp] theorem resetRegisters_eval (s : State) : (resetRegisters s).eval = State.reset.eval := rfl
@[simp] theorem resetRegisters_freg (s : State) : (resetRegisters s).freg = State.reset.freg := rfl
@[simp] theorem resetRegisters_f9 (s : State) : (resetRegisters s).f9 = State.reset.f9 := rfl
@[simp] theorem resetRegisters_eng (s : State) : (resetRegisters s).eng = State.reset.eng := rfl
@[simp] theorem resetRegisters_dbuf (s : State) : (resetRegisters s).dbuf = s.dbuf := rfl
@[simp] theorem resetRegisters_host (s : State) : (resetRegisters s).host = s.host := rfl
@[simp] theorem resetRegisters_rsp (s : State) : (resetRegisters s).rsp = s.rsp := rfl
@[simp] theorem resetRegisters_draws (s : State) : (resetRegisters s).draws = s.draws := rfl
@[simp] theorem resetRegisters_powerCycle (s : State) : (resetRegisters s).powerCycle = s.powerCycle := rfl

/-! ### powerOn -/

@[simp] theorem powerOn_cfg (s : State) : (powerOn s).cfg = s.cfg := rfl
@[simp] theorem powerOn_ctrl (s : State) : (powerOn s).ctrl = State.reset.ctrl := rfl
@[simp] theorem powerOn_status (s : State) : (powerOn s).status = State.reset.status := rfl
@[simp] theorem powerOn_pending (s : State) : (powerOn s).pending = none := rfl
@[simp] theorem powerOn_engstat (s : State) : (powerOn s).engstat = State.reset.engstat := rfl
@[simp] theorem powerOn_opr (s : State) : (powerOn s).opr = State.reset.opr := rfl
@[simp] theorem powerOn_maci (s : State) : (powerOn s).maci = State.reset.maci := rfl
@[simp] theorem powerOn_res (s : State) : (powerOn s).res = State.reset.res := rfl
@[simp] theorem powerOn_eval (s : State) : (powerOn s).eval = State.reset.eval := rfl
@[simp] theorem powerOn_freg (s : State) : (powerOn s).freg = State.reset.freg := rfl
@[simp] theorem powerOn_f9 (s : State) : (powerOn s).f9 = State.reset.f9 := rfl
@[simp] theorem powerOn_eng (s : State) : (powerOn s).eng = State.reset.eng := rfl
@[simp] theorem powerOn_dbuf (s : State) : (powerOn s).dbuf = [] := rfl
@[simp] theorem powerOn_host (s : State) : (powerOn s).host = s.host := rfl
@[simp] theorem powerOn_rsp (s : State) : (powerOn s).rsp = none := rfl
@[simp] theorem powerOn_draws (s : State) : (powerOn s).draws = s.draws := rfl
@[simp] theorem powerOn_powerCycle (s : State) : (powerOn s).powerCycle = s.powerCycle + 1 := rfl

/-! ### writeCtrl -/

@[simp] theorem writeCtrl_cfg (w : Word) (s : State) : (writeCtrl w s).cfg = s.cfg := rfl
@[simp] theorem writeCtrl_ctrl (w : Word) (s : State) : (writeCtrl w s).ctrl = { irqEn := w.getLsbD 0 } := rfl
@[simp] theorem writeCtrl_status (w : Word) (s : State) : (writeCtrl w s).status = s.status := rfl
@[simp] theorem writeCtrl_pending (w : Word) (s : State) : (writeCtrl w s).pending = s.pending := rfl
@[simp] theorem writeCtrl_engstat (w : Word) (s : State) : (writeCtrl w s).engstat = s.engstat := rfl
@[simp] theorem writeCtrl_opr (w : Word) (s : State) : (writeCtrl w s).opr = s.opr := rfl
@[simp] theorem writeCtrl_maci (w : Word) (s : State) : (writeCtrl w s).maci = s.maci := rfl
@[simp] theorem writeCtrl_res (w : Word) (s : State) : (writeCtrl w s).res = s.res := rfl
@[simp] theorem writeCtrl_eval (w : Word) (s : State) : (writeCtrl w s).eval = s.eval := rfl
@[simp] theorem writeCtrl_freg (w : Word) (s : State) : (writeCtrl w s).freg = s.freg := rfl
@[simp] theorem writeCtrl_f9 (w : Word) (s : State) : (writeCtrl w s).f9 = s.f9 := rfl
@[simp] theorem writeCtrl_eng (w : Word) (s : State) : (writeCtrl w s).eng = s.eng := rfl
@[simp] theorem writeCtrl_dbuf (w : Word) (s : State) : (writeCtrl w s).dbuf = s.dbuf := rfl
@[simp] theorem writeCtrl_host (w : Word) (s : State) : (writeCtrl w s).host = s.host := rfl
@[simp] theorem writeCtrl_rsp (w : Word) (s : State) : (writeCtrl w s).rsp = s.rsp := rfl
@[simp] theorem writeCtrl_draws (w : Word) (s : State) : (writeCtrl w s).draws = s.draws := rfl
@[simp] theorem writeCtrl_powerCycle (w : Word) (s : State) : (writeCtrl w s).powerCycle = s.powerCycle := rfl

/-! ### writeEngstat -/

@[simp] theorem writeEngstat_cfg (w : Word) (s : State) : (writeEngstat w s).cfg = s.cfg := rfl
@[simp] theorem writeEngstat_ctrl (w : Word) (s : State) : (writeEngstat w s).ctrl = s.ctrl := rfl
@[simp] theorem writeEngstat_status (w : Word) (s : State) : (writeEngstat w s).status = s.status := rfl
@[simp] theorem writeEngstat_pending (w : Word) (s : State) : (writeEngstat w s).pending = s.pending := rfl
@[simp] theorem writeEngstat_engstat (w : Word) (s : State) : (writeEngstat w s).engstat = { state := engStateWarl s.engstat.state (BitVec.extractLsb' 0 2 w), primed := w.getLsbD 2, f9valid := w.getLsbD 3 } := rfl
@[simp] theorem writeEngstat_opr (w : Word) (s : State) : (writeEngstat w s).opr = s.opr := rfl
@[simp] theorem writeEngstat_maci (w : Word) (s : State) : (writeEngstat w s).maci = s.maci := rfl
@[simp] theorem writeEngstat_res (w : Word) (s : State) : (writeEngstat w s).res = s.res := rfl
@[simp] theorem writeEngstat_eval (w : Word) (s : State) : (writeEngstat w s).eval = s.eval := rfl
@[simp] theorem writeEngstat_freg (w : Word) (s : State) : (writeEngstat w s).freg = s.freg := rfl
@[simp] theorem writeEngstat_f9 (w : Word) (s : State) : (writeEngstat w s).f9 = s.f9 := rfl
@[simp] theorem writeEngstat_eng (w : Word) (s : State) : (writeEngstat w s).eng = s.eng := rfl
@[simp] theorem writeEngstat_dbuf (w : Word) (s : State) : (writeEngstat w s).dbuf = s.dbuf := rfl
@[simp] theorem writeEngstat_host (w : Word) (s : State) : (writeEngstat w s).host = s.host := rfl
@[simp] theorem writeEngstat_rsp (w : Word) (s : State) : (writeEngstat w s).rsp = s.rsp := rfl
@[simp] theorem writeEngstat_draws (w : Word) (s : State) : (writeEngstat w s).draws = s.draws := rfl
@[simp] theorem writeEngstat_powerCycle (w : Word) (s : State) : (writeEngstat w s).powerCycle = s.powerCycle := rfl

/-! ### writeRes -/

@[simp] theorem writeRes_cfg (v : DWord) (s : State) : (writeRes v s).cfg = s.cfg := rfl
@[simp] theorem writeRes_ctrl (v : DWord) (s : State) : (writeRes v s).ctrl = s.ctrl := rfl
@[simp] theorem writeRes_status (v : DWord) (s : State) : (writeRes v s).status = s.status := rfl
@[simp] theorem writeRes_pending (v : DWord) (s : State) : (writeRes v s).pending = s.pending := rfl
@[simp] theorem writeRes_engstat (v : DWord) (s : State) : (writeRes v s).engstat = s.engstat := rfl
@[simp] theorem writeRes_opr (v : DWord) (s : State) : (writeRes v s).opr = s.opr := rfl
@[simp] theorem writeRes_maci (v : DWord) (s : State) : (writeRes v s).maci = s.maci := rfl
@[simp] theorem writeRes_res (v : DWord) (s : State) : (writeRes v s).res = v := rfl
@[simp] theorem writeRes_eval (v : DWord) (s : State) : (writeRes v s).eval = s.eval := rfl
@[simp] theorem writeRes_freg (v : DWord) (s : State) : (writeRes v s).freg = s.freg := rfl
@[simp] theorem writeRes_f9 (v : DWord) (s : State) : (writeRes v s).f9 = s.f9 := rfl
@[simp] theorem writeRes_eng (v : DWord) (s : State) : (writeRes v s).eng = s.eng := rfl
@[simp] theorem writeRes_dbuf (v : DWord) (s : State) : (writeRes v s).dbuf = s.dbuf := rfl
@[simp] theorem writeRes_host (v : DWord) (s : State) : (writeRes v s).host = s.host := rfl
@[simp] theorem writeRes_rsp (v : DWord) (s : State) : (writeRes v s).rsp = s.rsp := rfl
@[simp] theorem writeRes_draws (v : DWord) (s : State) : (writeRes v s).draws = s.draws := rfl
@[simp] theorem writeRes_powerCycle (v : DWord) (s : State) : (writeRes v s).powerCycle = s.powerCycle := rfl

/-! ### runInitialize -/

@[simp] theorem runInitialize_cfg (k iv : Quad) (s : State) : (runInitialize k iv s).cfg = s.cfg := rfl
@[simp] theorem runInitialize_ctrl (k iv : Quad) (s : State) : (runInitialize k iv s).ctrl = s.ctrl := rfl
@[simp] theorem runInitialize_status (k iv : Quad) (s : State) : (runInitialize k iv s).status = s.status := rfl
@[simp] theorem runInitialize_pending (k iv : Quad) (s : State) : (runInitialize k iv s).pending = s.pending := rfl
@[simp] theorem runInitialize_engstat (k iv : Quad) (s : State) : (runInitialize k iv s).engstat = { s.engstat with state := .streaming, primed := false } := rfl
@[simp] theorem runInitialize_opr (k iv : Quad) (s : State) : (runInitialize k iv s).opr = s.opr := rfl
@[simp] theorem runInitialize_maci (k iv : Quad) (s : State) : (runInitialize k iv s).maci = s.maci := rfl
@[simp] theorem runInitialize_res (k iv : Quad) (s : State) : (runInitialize k iv s).res = s.res := rfl
@[simp] theorem runInitialize_eval (k iv : Quad) (s : State) : (runInitialize k iv s).eval = s.eval := rfl
@[simp] theorem runInitialize_freg (k iv : Quad) (s : State) : (runInitialize k iv s).freg = s.freg := rfl
@[simp] theorem runInitialize_f9 (k iv : Quad) (s : State) : (runInitialize k iv s).f9 = s.f9 := rfl
@[simp] theorem runInitialize_eng (k iv : Quad) (s : State) : (runInitialize k iv s).eng = initEngine k iv := rfl
@[simp] theorem runInitialize_dbuf (k iv : Quad) (s : State) : (runInitialize k iv s).dbuf = s.dbuf := rfl
@[simp] theorem runInitialize_host (k iv : Quad) (s : State) : (runInitialize k iv s).host = s.host := rfl
@[simp] theorem runInitialize_rsp (k iv : Quad) (s : State) : (runInitialize k iv s).rsp = s.rsp := rfl
@[simp] theorem runInitialize_draws (k iv : Quad) (s : State) : (runInitialize k iv s).draws = s.draws := rfl
@[simp] theorem runInitialize_powerCycle (k iv : Quad) (s : State) : (runInitialize k iv s).powerCycle = s.powerCycle := rfl

/-! ### advanceKeystream -/

@[simp] theorem advanceKeystream_cfg (n : Nat) (s : State) : (advanceKeystream n s).cfg = s.cfg := rfl
@[simp] theorem advanceKeystream_ctrl (n : Nat) (s : State) : (advanceKeystream n s).ctrl = s.ctrl := rfl
@[simp] theorem advanceKeystream_status (n : Nat) (s : State) : (advanceKeystream n s).status = s.status := rfl
@[simp] theorem advanceKeystream_pending (n : Nat) (s : State) : (advanceKeystream n s).pending = s.pending := rfl
@[simp] theorem advanceKeystream_engstat (n : Nat) (s : State) : (advanceKeystream n s).engstat = { s.engstat with primed := (keystreamWords n s.eng s.engstat.primed).primed } := rfl
@[simp] theorem advanceKeystream_opr (n : Nat) (s : State) : (advanceKeystream n s).opr = s.opr := rfl
@[simp] theorem advanceKeystream_maci (n : Nat) (s : State) : (advanceKeystream n s).maci = s.maci := rfl
@[simp] theorem advanceKeystream_res (n : Nat) (s : State) : (advanceKeystream n s).res = s.res := rfl
@[simp] theorem advanceKeystream_eval (n : Nat) (s : State) : (advanceKeystream n s).eval = s.eval := rfl
@[simp] theorem advanceKeystream_freg (n : Nat) (s : State) : (advanceKeystream n s).freg = s.freg := rfl
@[simp] theorem advanceKeystream_f9 (n : Nat) (s : State) : (advanceKeystream n s).f9 = s.f9 := rfl
@[simp] theorem advanceKeystream_eng (n : Nat) (s : State) : (advanceKeystream n s).eng = (keystreamWords n s.eng s.engstat.primed).eng := rfl
@[simp] theorem advanceKeystream_dbuf (n : Nat) (s : State) : (advanceKeystream n s).dbuf = s.dbuf := rfl
@[simp] theorem advanceKeystream_host (n : Nat) (s : State) : (advanceKeystream n s).host = s.host := rfl
@[simp] theorem advanceKeystream_rsp (n : Nat) (s : State) : (advanceKeystream n s).rsp = s.rsp := rfl
@[simp] theorem advanceKeystream_draws (n : Nat) (s : State) : (advanceKeystream n s).draws = s.draws := rfl
@[simp] theorem advanceKeystream_powerCycle (n : Nat) (s : State) : (advanceKeystream n s).powerCycle = s.powerCycle := rfl

/-! ### deriveContext -/

@[simp] theorem deriveContext_cfg (s : State) : (deriveContext s).cfg = s.cfg := rfl
@[simp] theorem deriveContext_ctrl (s : State) : (deriveContext s).ctrl = s.ctrl := rfl
@[simp] theorem deriveContext_status (s : State) : (deriveContext s).status = s.status := rfl
@[simp] theorem deriveContext_pending (s : State) : (deriveContext s).pending = s.pending := rfl
@[simp] theorem deriveContext_engstat (s : State) : (deriveContext s).engstat = { s.engstat with primed := (keystreamWords 5 s.eng s.engstat.primed).primed, f9valid := true } := rfl
@[simp] theorem deriveContext_opr (s : State) : (deriveContext s).opr = s.opr := rfl
@[simp] theorem deriveContext_maci (s : State) : (deriveContext s).maci = s.maci := rfl
@[simp] theorem deriveContext_res (s : State) : (deriveContext s).res = s.res := rfl
@[simp] theorem deriveContext_eval (s : State) : (deriveContext s).eval = s.eval := rfl
@[simp] theorem deriveContext_freg (s : State) : (deriveContext s).freg = s.freg := rfl
@[simp] theorem deriveContext_f9 (s : State) : (deriveContext s).f9 = f9Context (keystreamOf 5 s) := rfl
@[simp] theorem deriveContext_eng (s : State) : (deriveContext s).eng = (keystreamWords 5 s.eng s.engstat.primed).eng := rfl
@[simp] theorem deriveContext_dbuf (s : State) : (deriveContext s).dbuf = s.dbuf := rfl
@[simp] theorem deriveContext_host (s : State) : (deriveContext s).host = s.host := rfl
@[simp] theorem deriveContext_rsp (s : State) : (deriveContext s).rsp = s.rsp := rfl
@[simp] theorem deriveContext_draws (s : State) : (deriveContext s).draws = s.draws := rfl
@[simp] theorem deriveContext_powerCycle (s : State) : (deriveContext s).powerCycle = s.powerCycle := rfl

/-! ### writeHash -/

@[simp] theorem writeHash_cfg (s : State) : (writeHash s).cfg = s.cfg := rfl
@[simp] theorem writeHash_ctrl (s : State) : (writeHash s).ctrl = s.ctrl := rfl
@[simp] theorem writeHash_status (s : State) : (writeHash s).status = s.status := rfl
@[simp] theorem writeHash_pending (s : State) : (writeHash s).pending = s.pending := rfl
@[simp] theorem writeHash_engstat (s : State) : (writeHash s).engstat = s.engstat := rfl
@[simp] theorem writeHash_opr (s : State) : (writeHash s).opr = s.opr := rfl
@[simp] theorem writeHash_maci (s : State) : (writeHash s).maci = maciOf s := rfl
@[simp] theorem writeHash_res (s : State) : (writeHash s).res = s.res := rfl
@[simp] theorem writeHash_eval (s : State) : (writeHash s).eval = evalOf s := rfl
@[simp] theorem writeHash_freg (s : State) : (writeHash s).freg = s.freg := rfl
@[simp] theorem writeHash_f9 (s : State) : (writeHash s).f9 = s.f9 := rfl
@[simp] theorem writeHash_eng (s : State) : (writeHash s).eng = s.eng := rfl
@[simp] theorem writeHash_dbuf (s : State) : (writeHash s).dbuf = s.dbuf := rfl
@[simp] theorem writeHash_host (s : State) : (writeHash s).host = s.host := rfl
@[simp] theorem writeHash_rsp (s : State) : (writeHash s).rsp = s.rsp := rfl
@[simp] theorem writeHash_draws (s : State) : (writeHash s).draws = s.draws := rfl
@[simp] theorem writeHash_powerCycle (s : State) : (writeHash s).powerCycle = s.powerCycle := rfl

/-! ### writeVok -/

@[simp] theorem writeVok_cfg (v : Bool) (s : State) : (writeVok v s).cfg = s.cfg := rfl
@[simp] theorem writeVok_ctrl (v : Bool) (s : State) : (writeVok v s).ctrl = s.ctrl := rfl
@[simp] theorem writeVok_status (v : Bool) (s : State) : (writeVok v s).status = { s.status with vok := v } := rfl
@[simp] theorem writeVok_pending (v : Bool) (s : State) : (writeVok v s).pending = s.pending := rfl
@[simp] theorem writeVok_engstat (v : Bool) (s : State) : (writeVok v s).engstat = s.engstat := rfl
@[simp] theorem writeVok_opr (v : Bool) (s : State) : (writeVok v s).opr = s.opr := rfl
@[simp] theorem writeVok_maci (v : Bool) (s : State) : (writeVok v s).maci = s.maci := rfl
@[simp] theorem writeVok_res (v : Bool) (s : State) : (writeVok v s).res = s.res := rfl
@[simp] theorem writeVok_eval (v : Bool) (s : State) : (writeVok v s).eval = s.eval := rfl
@[simp] theorem writeVok_freg (v : Bool) (s : State) : (writeVok v s).freg = s.freg := rfl
@[simp] theorem writeVok_f9 (v : Bool) (s : State) : (writeVok v s).f9 = s.f9 := rfl
@[simp] theorem writeVok_eng (v : Bool) (s : State) : (writeVok v s).eng = s.eng := rfl
@[simp] theorem writeVok_dbuf (v : Bool) (s : State) : (writeVok v s).dbuf = s.dbuf := rfl
@[simp] theorem writeVok_host (v : Bool) (s : State) : (writeVok v s).host = s.host := rfl
@[simp] theorem writeVok_rsp (v : Bool) (s : State) : (writeVok v s).rsp = s.rsp := rfl
@[simp] theorem writeVok_draws (v : Bool) (s : State) : (writeVok v s).draws = s.draws := rfl
@[simp] theorem writeVok_powerCycle (v : Bool) (s : State) : (writeVok v s).powerCycle = s.powerCycle := rfl

/-! ### respond -/

@[simp] theorem respond_cfg (r : Response) (s : State) : (respond r s).cfg = s.cfg := rfl
@[simp] theorem respond_ctrl (r : Response) (s : State) : (respond r s).ctrl = s.ctrl := rfl
@[simp] theorem respond_status (r : Response) (s : State) : (respond r s).status = s.status := rfl
@[simp] theorem respond_pending (r : Response) (s : State) : (respond r s).pending = s.pending := rfl
@[simp] theorem respond_engstat (r : Response) (s : State) : (respond r s).engstat = s.engstat := rfl
@[simp] theorem respond_opr (r : Response) (s : State) : (respond r s).opr = s.opr := rfl
@[simp] theorem respond_maci (r : Response) (s : State) : (respond r s).maci = s.maci := rfl
@[simp] theorem respond_res (r : Response) (s : State) : (respond r s).res = s.res := rfl
@[simp] theorem respond_eval (r : Response) (s : State) : (respond r s).eval = s.eval := rfl
@[simp] theorem respond_freg (r : Response) (s : State) : (respond r s).freg = s.freg := rfl
@[simp] theorem respond_f9 (r : Response) (s : State) : (respond r s).f9 = s.f9 := rfl
@[simp] theorem respond_eng (r : Response) (s : State) : (respond r s).eng = s.eng := rfl
@[simp] theorem respond_dbuf (r : Response) (s : State) : (respond r s).dbuf = s.dbuf := rfl
@[simp] theorem respond_host (r : Response) (s : State) : (respond r s).host = s.host := rfl
@[simp] theorem respond_rsp (r : Response) (s : State) : (respond r s).rsp = some r := rfl
@[simp] theorem respond_draws (r : Response) (s : State) : (respond r s).draws = s.draws := rfl
@[simp] theorem respond_powerCycle (r : Response) (s : State) : (respond r s).powerCycle = s.powerCycle := rfl

/-! ### respondOpen -/

@[simp] theorem respondOpen_cfg (s : State) : (respondOpen s).cfg = s.cfg := rfl
@[simp] theorem respondOpen_ctrl (s : State) : (respondOpen s).ctrl = s.ctrl := rfl
@[simp] theorem respondOpen_status (s : State) : (respondOpen s).status = s.status := rfl
@[simp] theorem respondOpen_pending (s : State) : (respondOpen s).pending = s.pending := rfl
@[simp] theorem respondOpen_engstat (s : State) : (respondOpen s).engstat = s.engstat := rfl
@[simp] theorem respondOpen_opr (s : State) : (respondOpen s).opr = s.opr := rfl
@[simp] theorem respondOpen_maci (s : State) : (respondOpen s).maci = s.maci := rfl
@[simp] theorem respondOpen_res (s : State) : (respondOpen s).res = s.res := rfl
@[simp] theorem respondOpen_eval (s : State) : (respondOpen s).eval = s.eval := rfl
@[simp] theorem respondOpen_freg (s : State) : (respondOpen s).freg = s.freg := rfl
@[simp] theorem respondOpen_f9 (s : State) : (respondOpen s).f9 = s.f9 := rfl
@[simp] theorem respondOpen_eng (s : State) : (respondOpen s).eng = s.eng := rfl
@[simp] theorem respondOpen_dbuf (s : State) : (respondOpen s).dbuf = s.dbuf := rfl
@[simp] theorem respondOpen_host (s : State) : (respondOpen s).host = s.host := rfl
@[simp] theorem respondOpen_rsp (s : State) : (respondOpen s).rsp = some (.data (Config.busyRead s.draws)) := rfl
@[simp] theorem respondOpen_draws (s : State) : (respondOpen s).draws = s.draws + 1 := rfl
@[simp] theorem respondOpen_powerCycle (s : State) : (respondOpen s).powerCycle = s.powerCycle := rfl

end Sys2Proof.Laws
end

