-- ==== Sys2Proof/Laws/Memory.lean ====
section
/-! SUPPORT. The laws of the data buffer: a read after a write, writes leave every other byte alone, and every memory operation
keeps the canonical form. -/

namespace Sys2Proof.Laws

open Sys2Proof.Machine

/-! ### One byte -/

theorem cellAt_setCell_same (a : Nat) (b : Byte) (m : List Host.Cell) : cellAt a (setCell a b m) = some b := by
  induction m with
  | nil => simp [setCell, cellAt]
  | cons c m ih =>
    obtain ⟨a', b'⟩ := c
    by_cases h : a < a'
    · simp [setCell, cellAt, h]
    · by_cases e : a = a'
      · simp [setCell, cellAt, e]
      · simp [setCell, cellAt, h, e, ih]

theorem cellAt_setCell_other {a x : Nat} (hx : x ≠ a) (b : Byte) (m : List Host.Cell) :
    cellAt x (setCell a b m) = cellAt x m := by
  induction m with
  | nil => simp [setCell, cellAt, hx]
  | cons c m ih =>
    obtain ⟨a', b'⟩ := c
    by_cases h : a < a'
    · simp [setCell, cellAt, h, hx]
    · by_cases e : a = a'
      · subst e
        simp [setCell, cellAt, hx]
      · simp [setCell, cellAt, h, e, ih]

/-! ### A list of bytes -/

theorem cellAt_setCells_below {a x : Nat} (hx : x < a) (bs : List Byte) (m : List Host.Cell) :
    cellAt x (setCells a bs m) = cellAt x m := by
  induction bs generalizing a m with
  | nil => rfl
  | cons b bs ih => rw [setCells, ih (by omega), cellAt_setCell_other (by omega)]

theorem cellAt_setCells_above {a x : Nat} (bs : List Byte) (hx : a + bs.length ≤ x) (m : List Host.Cell) :
    cellAt x (setCells a bs m) = cellAt x m := by
  induction bs generalizing a m with
  | nil => rfl
  | cons b bs ih =>
    simp only [List.length_cons] at hx
    rw [setCells, ih (by omega), cellAt_setCell_other (by omega)]

theorem cellAt_setCells_inside {a k : Nat} (bs : List Byte) (hk : k < bs.length) (m : List Host.Cell) :
    cellAt (a + k) (setCells a bs m) = some bs[k] := by
  induction bs generalizing a k m with
  | nil => simp at hk
  | cons b bs ih =>
    cases k with
    | zero => rw [setCells, Nat.add_zero, cellAt_setCells_below (by omega), cellAt_setCell_same, List.getElem_cons_zero]
    | succ k =>
      simp only [List.length_cons] at hk
      have h := ih (a := a + 1) (k := k) (by omega) (setCell a b m)
      rw [setCells, show a + (k + 1) = a + 1 + k by omega, h, List.getElem_cons_succ]

/-- All that a memory write does, through the read of one byte: byte `k` of the list at offset `a + k`. -/
theorem dbufByte_memWrite_inside (a k : Nat) (bs : List Byte) (hk : k < bs.length) (s : State) :
    dbufByte (memWrite a bs s) (a + k) = bs[k] := by
  simp [dbufByte, cellAt_setCells_inside bs hk]

/-- All that a memory write leaves alone: every byte outside the written range. -/
theorem dbufByte_memWrite_outside (a x : Nat) (bs : List Byte) (hx : x < a ∨ a + bs.length ≤ x) (s : State) :
    dbufByte (memWrite a bs s) x = dbufByte s x := by
  rcases hx with hx | hx
  · simp [dbufByte, cellAt_setCells_below hx]
  · simp [dbufByte, cellAt_setCells_above bs hx]

/-- A byte's reading depends on DBUF and the power cycle only. -/
theorem dbufByte_congr {s t : State} (hd : t.dbuf = s.dbuf) (hc : t.powerCycle = s.powerCycle) (a : Nat) :
    dbufByte t a = dbufByte s a := by simp [dbufByte, hd, hc]

theorem memRead_length (s : State) (a n : Nat) : (memRead s a n).length = n := by
  induction n generalizing a with
  | zero => rfl
  | succ n ih => simp [memRead, ih]

/-- All that a memory read answers: byte `k` is the byte at offset `a + k`. -/
theorem memRead_getElem (s : State) (a n k : Nat) (hk : k < (memRead s a n).length) :
    (memRead s a n)[k] = dbufByte s (a + k) := by
  induction n generalizing a k with
  | zero => simp [memRead] at hk
  | succ n ih =>
    cases k with
    | zero => simp [memRead]
    | succ k =>
      simp only [memRead, List.getElem_cons_succ]
      rw [ih, show a + 1 + k = a + (k + 1) by omega]

/-- The same through `getD`, for an index in range. -/
theorem memRead_getD (s : State) (a n k : Nat) (hk : k < n) (d : Byte) :
    (memRead s a n).getD k d = dbufByte s (a + k) := by
  have hl : k < (memRead s a n).length := by rw [memRead_length]; exact hk
  rw [List.getD_eq_getElem?_getD, List.getElem?_eq_getElem hl, Option.getD_some, memRead_getElem]

/-! ### The canonical form -/

theorem cellsFrom_mono {lo lo' size : Nat} {m : List Host.Cell} (h : cellsFrom lo size m = true) (hl : lo' ≤ lo) :
    cellsFrom lo' size m = true := by
  cases m with
  | nil => rfl
  | cons c m =>
    obtain ⟨a, b⟩ := c
    simp only [cellsFrom, Bool.and_eq_true, decide_eq_true_eq] at h ⊢
    exact ⟨⟨by omega, h.1.2⟩, h.2⟩

theorem setCell_keeps_cellsFrom {lo size a : Nat} (hl : lo ≤ a) (ha : a < size) (b : Byte) (m : List Host.Cell)
    (h : cellsFrom lo size m = true) : cellsFrom lo size (setCell a b m) = true := by
  induction m generalizing lo with
  | nil => simp [setCell, cellsFrom, hl, ha]
  | cons c m ih =>
    obtain ⟨a', b'⟩ := c
    simp only [cellsFrom, Bool.and_eq_true, decide_eq_true_eq] at h
    obtain ⟨⟨h1, h2⟩, h3⟩ := h
    by_cases hlt : a < a'
    · simp only [setCell, hlt, ↓reduceIte, cellsFrom, Bool.and_eq_true, decide_eq_true_eq]
      exact ⟨⟨hl, ha⟩, ⟨⟨by omega, h2⟩, h3⟩⟩
    · by_cases e : a = a'
      · subst e
        simp [setCell, cellsFrom, h1, h2, h3]
      · simp only [setCell, hlt, e, ↓reduceIte, cellsFrom, Bool.and_eq_true, decide_eq_true_eq]
        exact ⟨⟨h1, h2⟩, ih (by omega) h3⟩

/-- Every write of one byte within the buffer keeps the canonical form. -/
theorem setCell_keeps_wf {size a : Nat} (ha : a < size) (b : Byte) {m : List Host.Cell} (h : Memory.wf size m = true) :
    Memory.wf size (setCell a b m) = true :=
  setCell_keeps_cellsFrom (Nat.zero_le a) ha b m h

/-- Every write of bytes within the buffer keeps the canonical form. -/
theorem setCells_keeps_wf {size a : Nat} (bs : List Byte) (ha : a + bs.length ≤ size) {m : List Host.Cell}
    (h : Memory.wf size m = true) : Memory.wf size (setCells a bs m) = true := by
  induction bs generalizing a m with
  | nil => exact h
  | cons b bs ih =>
    simp only [List.length_cons] at ha
    exact ih (by omega) (setCell_keeps_wf (by omega) b h)

/-- A memory write within DBUF_SIZE keeps the canonical form. -/
theorem memWrite_keeps_wf (a : Nat) (bs : List Byte) (s : State) (ha : a + bs.length ≤ s.cfg.dbufSize)
    (h : Memory.wf s.cfg.dbufSize s.dbuf = true) :
    Memory.wf (memWrite a bs s).cfg.dbufSize (memWrite a bs s).dbuf = true :=
  setCells_keeps_wf bs ha h

/-- Power-on leaves a buffer in canonical form. -/
theorem powerOn_memory_wf (s : State) : Memory.wf (powerOn s).cfg.dbufSize (powerOn s).dbuf = true := rfl

/-- The reset state's buffer is in canonical form. -/
theorem reset_memory_wf : Memory.wf State.reset.cfg.dbufSize State.reset.dbuf = true := rfl

/-- In canonical form every listed offset is below the buffer's size. -/
theorem cellAt_of_wf {lo size a : Nat} {m : List Host.Cell} (h : cellsFrom lo size m = true) {b : Byte}
    (hb : cellAt a m = some b) : a < size := by
  induction m generalizing lo with
  | nil => simp [cellAt] at hb
  | cons c m ih =>
    obtain ⟨a', b'⟩ := c
    simp only [cellsFrom, Bool.and_eq_true, decide_eq_true_eq] at h
    by_cases e : a = a'
    · omega
    · exact ih h.2 (by simpa [cellAt, e] using hb)

end Sys2Proof.Laws
end

