-- ==== Sys2Proof/Laws/Ops.lean ====
section
/-! SUPPORT. What the shared operations can do, said once: how a command ends, what the unit's turn is, and what one step can
be. -/

namespace Sys2Proof.Laws

open Sys2Proof.Machine

/-! ### Ends of commands -/

/-- A successful command's next state is its effect, completed. -/
@[simp] theorem finish_eq_next (s t : State) : finish s = .next t ↔ complete .ok s = t := by simp [finish]

/-- A failed command's next state is the state it started in, with STATUS completed. -/
theorem raiseError_eq {code : ErrCode} (h : code ≠ .ok) (s : State) : raiseError code s = .next (afterError code s) := by
  simp [raiseError, complete, afterError, h]

/-- What a successful completion leaves of STATUS and PENDING. -/
theorem complete_ok_succeeded (s : State) : succeeded s (complete .ok s) := by
  simp [succeeded]

/-- A completion changes no byte of DBUF. -/
@[simp] theorem dbufByte_complete (code : ErrCode) (s : State) (a : Nat) : dbufByte (complete code s) a = dbufByte s a := rfl

/-- After a completion the unit is not busy. -/
@[simp] theorem busy_complete (code : ErrCode) (s : State) : busy (complete code s) = false := rfl

/-- A latched command makes the unit busy. -/
@[simp] theorem busy_issueCommand (w : Word) (s : State) : busy (issueCommand w s) = true := rfl

/-! ### Steps -/

/-- All that one step can be. -/
theorem step_cases {s t : State} (h : step s = .next t) :
    (s.host = [] ∧ unitStep s = .next t) ∨
    (∃ rest, s.host = .unitTurn :: rest ∧ unitStep { s with host := rest } = .next t) ∨
    (∃ rest, s.host = .powerReset :: rest ∧ t = powerOn { s with host := rest }) ∨
    (∃ addr size rest off, s.host = .read addr size :: rest ∧ busOffset s.cfg addr = some off ∧
      t = hostRead off size { s with host := rest }) ∨
    (∃ addr size w rest off, s.host = .write addr size w :: rest ∧ busOffset s.cfg addr = some off ∧
      t = hostWrite off size w { s with host := rest }) := by
  unfold step at h
  split at h
  · exact .inl ⟨‹_›, h⟩
  · exact .inr (.inl ⟨_, ‹_›, h⟩)
  · cases h
    exact .inr (.inr (.inl ⟨_, ‹_›, rfl⟩))
  · split at h
    · cases h
      exact .inr (.inr (.inr (.inl ⟨_, _, _, _, ‹_›, ‹_›, rfl⟩)))
    · cases h
  · split at h
    · cases h
      exact .inr (.inr (.inr (.inr ⟨_, _, _, _, _, ‹_›, ‹_›, rfl⟩)))
    · cases h

/-- All that the unit's turn can be. -/
theorem unitStep_cases {s t : State} (h : unitStep s = .next t) :
    (s.pending = none ∧ t = s) ∨
    (∃ w i, s.pending = some w ∧ decode w = .ok i ∧ exec i s = .next t) ∨
    (∃ w e, s.pending = some w ∧ decode w = .error e ∧ raiseError (decodeErrCode e) s = .next t) := by
  unfold unitStep fetchCommand completion at h
  split at h
  · split at h
    · exact .inr (.inl ⟨_, _, ‹_›, ‹_›, h⟩)
    · exact .inr (.inr ⟨_, _, ‹_›, ‹_›, h⟩)
  · cases h
    exact .inl ⟨‹_›, rfl⟩

/-! ### The host port -/

/-- A host read changes nothing but the port's answer and the number of draws. -/
theorem hostRead_cases (off size : Nat) (s : State) :
    (∃ r, hostRead off size s = respond r s) ∨ hostRead off size s = respondOpen s := by
  unfold hostRead
  repeat' split
  all_goals first
    | exact .inl ⟨_, rfl⟩
    | exact .inr rfl

/-- All that a host write can be: refused on the bus, dropped while BUSY = 1, ignored, or made to its register or DBUF word. -/
theorem hostWrite_cases (off size : Nat) (w : Word) (s : State) :
    hostWrite off size w s = respond .busError s ∨
    (busy s = true ∧ hostWrite off size w s = respond .accepted (setOverrun s)) ∨
    hostWrite off size w s = respond .accepted s ∨
    (∃ r, targetOf s.cfg off = .reg r ∧ (busy s = false ∨ writableWhileBusy r = true) ∧
      hostWrite off size w s = respond .accepted (writeReg r w s)) ∨
    (∃ j, targetOf s.cfg off = .dbufWord j ∧ busy s = false ∧
      hostWrite off size w s = respond .accepted (writeDbufWord j w s)) := by
  unfold hostWrite
  cases hg : goodAccess off size
  · exact .inl rfl
  · cases ht : targetOf s.cfg off with
    | reg r =>
      cases hb : busy s
      · exact .inr (.inr (.inr (.inl ⟨r, rfl, .inl rfl, rfl⟩)))
      · cases hw : writableWhileBusy r
        · exact .inr (.inl ⟨rfl, by simp [hw]⟩)
        · exact .inr (.inr (.inr (.inl ⟨r, rfl, .inr hw, by simp [hw]⟩)))
    | dbufWord j =>
      cases hb : busy s
      · exact .inr (.inr (.inr (.inr ⟨j, rfl, rfl, rfl⟩)))
      · exact .inr (.inl ⟨rfl, rfl⟩)
    | reserved =>
      cases hb : busy s
      · exact .inr (.inr (.inl rfl))
      · exact .inr (.inl ⟨rfl, rfl⟩)

/-- A DBUF word that the address map names lies within the buffer, all four bytes of it. -/
theorem dbufWord_in_range {c : Config} {off j : Nat} (h : targetOf c off = .dbufWord j) : 4 * j + 4 ≤ c.dbufSize := by
  have hs : c.dbufSize = 4 * (c.lastWord.val + 1) := rfl
  unfold targetOf at h
  split at h
  · split at h <;> cases h
  · split at h
    · cases h
      simp only [dbufWindow] at *
      omega
    · cases h

/-- The register map is read back: the register at a register's offset is that register. -/
theorem regAt_regOffset (r : Reg) : regAt (regOffset r) = some r := by
  cases r <;> rfl

/-- The address map at a register's offset. -/
theorem targetOf_regOffset (c : Config) (r : Reg) : targetOf c (regOffset r) = .reg r := by
  have h : regOffset r < dbufWindow := by cases r <;> decide
  simp [targetOf, h, regAt_regOffset]

end Sys2Proof.Laws
end

