-- ==== Sys2Proof/Laws/Engine.lean ====
section
/-! SUPPORT. The keystream functions' small lemmas, and the lengths of what they and the F8 datapath produce. -/

namespace Sys2Proof.Laws

open Sys2Proof.Machine

@[simp] theorem mulxpow_zero (v c : Byte) : mulxpow v 0 c = v := rfl

@[simp] theorem mulxpow_succ (v : Byte) (i : Nat) (c : Byte) : mulxpow v (i + 1) c = mulx (mulxpow v i c) c := rfl

@[simp] theorem mul64xpow_zero (v c : DWord) : mul64xpow v 0 c = v := rfl

@[simp] theorem mul64xpow_succ (v : DWord) (i : Nat) (c : DWord) :
    mul64xpow v (i + 1) c = mul64x (mul64xpow v i c) c := rfl

@[simp] theorem mul64Sum_zero (v p c : DWord) : mul64Sum v p c 0 = 0#64 := rfl

@[simp] theorem mul64Sum_succ (v p c : DWord) (i : Nat) :
    mul64Sum v p c (i + 1) = if p.getLsbD i then mul64Sum v p c i ^^^ mul64xpow v i c else mul64Sum v p c i := rfl

@[simp] theorem fsmClock_lfsr (e : Engine) : (fsmClock e).lfsr = e.lfsr := rfl

@[simp] theorem fsmClock_fsm (e : Engine) : (fsmClock e).fsm = fsmNext e := rfl

@[simp] theorem lfsrClockKs_fsm (e : Engine) : (lfsrClockKs e).fsm = e.fsm := rfl

@[simp] theorem lfsrClockInit_fsm (f : Word) (e : Engine) : (lfsrClockInit f e).fsm = e.fsm := rfl

@[simp] theorem ksWords_length (n : Nat) (e : Engine) : (ksWords n e).length = n := by
  induction n generalizing e with
  | zero => rfl
  | succ n ih => simp [ksWords, ih]

/-- The engine after `n` keystream clocks is the clock iterated. -/
theorem ksAdvance_eq_iterate (n : Nat) (e : Engine) : ksAdvance n e = ksClock^[n] e := by
  induction n generalizing e with
  | zero => rfl
  | succ n ih => simp [ksAdvance, ih]

/-- The engine after `n` initialisation rounds is the round iterated. -/
theorem initRounds_eq_iterate (n : Nat) (e : Engine) : initRounds n e = initRound^[n] e := by
  induction n generalizing e with
  | zero => rfl
  | succ n ih => simp [initRounds, ih]

@[simp] theorem keystreamWords_zero (e : Engine) (p : Bool) : keystreamWords 0 e p = ⟨[], e, p⟩ := rfl

theorem keystreamWords_pos {n : Nat} (h : n ≠ 0) (e : Engine) (p : Bool) :
    keystreamWords n e p = ⟨ksWords n (primeEngine p e), ksAdvance n (primeEngine p e), true⟩ := by
  simp [keystreamWords, h]

/-- A keystream request returns as many words as it asks for. -/
@[simp] theorem keystreamWords_length (n : Nat) (e : Engine) (p : Bool) : (keystreamWords n e p).words.length = n := by
  by_cases h : n = 0
  · simp [h]
  · simp [keystreamWords_pos h]

@[simp] theorem keystreamOf_length (n : Nat) (s : State) : (keystreamOf n s).length = n := by simp [keystreamOf]

@[simp] theorem wordBytes_length (w : Word) : (wordBytes w).length = 4 := rfl

@[simp] theorem keystreamBytes_length (ws : List Word) : (keystreamBytes ws).length = 4 * ws.length := by
  induction ws with
  | nil => rfl
  | cons w ws ih =>
    simp only [keystreamBytes, List.flatMap_cons, List.length_append, wordBytes_length, List.length_cons] at *
    omega

@[simp] theorem f8Output_length (data : List Byte) (ks : List Word) (len : Nat) :
    (f8Output data ks len).length = 4 * wordCount len := by simp [f8Output]

end Sys2Proof.Laws
end

