-- ==== Sys2Proof/Laws/PerInstr.lean ====
section
/-! SUPPORT. A law of each command as syntax: its word carries its opcode of 30_encoding.md R89 in bits 31:24. -/

namespace Sys2Proof.Laws

/-- The opcode of a command in the table of R89. -/
def opcodeNumber : Instr → Nat
  | .nop => 0x00
  | .sreset => 0x01
  | .mulx _ _ => 0x10
  | .mulxpow _ _ _ => 0x11
  | .mulalpha _ => 0x12
  | .divalpha _ => 0x13
  | .mask8 _ => 0x14
  | .mul64x => 0x18
  | .mul64xpow _ => 0x19
  | .mul64 => 0x1A
  | .sbox1 => 0x20
  | .sbox2 => 0x21
  | .fsmClk => 0x22
  | .lfsrClkInit => 0x28
  | .lfsrClkKs => 0x29
  | .engLoad => 0x30
  | .engInit => 0x31
  | .ksWord => 0x32
  | .ksGen _ => 0x33
  | .f8Setup => 0x40
  | .f8 => 0x41
  | .f9Setup => 0x48
  | .f9Hash => 0x49
  | .f9Verify => 0x4A

/-- The word of a well-formed command has the command's opcode in bits 31:24. -/
def EncodedOpcode.Statement (i : Instr) : Prop := i.wf = true → fieldOp (encode i) = opcodeNumber i

/-- A word packed from an opcode and 24 operand bits has that opcode in bits 31:24. -/
theorem fieldOp_packWord {op x : Nat} (ho : op < 256) (hx : x < 2 ^ 24) : fieldOp (packWord op x) = op := by
  have h : (op * 2 ^ 24 + x) % 2 ^ 32 = op * 2 ^ 24 + x := Nat.mod_eq_of_lt (by norm_num at hx ⊢; omega)
  rw [fieldOp, wordField, packWord, BitVec.extractLsb'_toNat, BitVec.toNat_ofNat, h, Nat.shiftRight_eq_div_pow,
    Nat.mul_comm, Nat.mul_add_div (by norm_num), Nat.div_eq_of_lt hx, Nat.add_zero, Nat.mod_eq_of_lt (by norm_num; omega)]

theorem EncodedOpcode.nop : EncodedOpcode.Statement .nop := fun _ => by decide

theorem EncodedOpcode.sreset : EncodedOpcode.Statement .sreset := fun _ => by decide

theorem EncodedOpcode.mulx (v c : Nat) : EncodedOpcode.Statement (.mulx v c) := fun h => by
  simp only [Instr.wf, fitsByte, Bool.and_eq_true, decide_eq_true_eq] at h
  exact fieldOp_packWord (by decide) (by omega)

theorem EncodedOpcode.mulxpow (v c i : Nat) : EncodedOpcode.Statement (.mulxpow v c i) := fun h => by
  simp only [Instr.wf, fitsByte, Bool.and_eq_true, decide_eq_true_eq] at h
  exact fieldOp_packWord (by decide) (by omega)

theorem EncodedOpcode.mulalpha (v : Nat) : EncodedOpcode.Statement (.mulalpha v) := fun h => by
  simp only [Instr.wf, fitsByte, decide_eq_true_eq] at h
  exact fieldOp_packWord (by decide) (by omega)

theorem EncodedOpcode.divalpha (v : Nat) : EncodedOpcode.Statement (.divalpha v) := fun h => by
  simp only [Instr.wf, fitsByte, decide_eq_true_eq] at h
  exact fieldOp_packWord (by decide) (by omega)

theorem EncodedOpcode.mask8 (n : Nat) : EncodedOpcode.Statement (.mask8 n) := fun h => by
  simp only [Instr.wf, fitsByte, decide_eq_true_eq] at h
  exact fieldOp_packWord (by decide) (by omega)

theorem EncodedOpcode.mul64x : EncodedOpcode.Statement .mul64x := fun _ => by decide

theorem EncodedOpcode.mul64xpow (i : Nat) : EncodedOpcode.Statement (.mul64xpow i) := fun h => by
  simp only [Instr.wf, fitsByte, decide_eq_true_eq] at h
  exact fieldOp_packWord (by decide) (by omega)

theorem EncodedOpcode.mul64 : EncodedOpcode.Statement .mul64 := fun _ => by decide

theorem EncodedOpcode.sbox1 : EncodedOpcode.Statement .sbox1 := fun _ => by decide

theorem EncodedOpcode.sbox2 : EncodedOpcode.Statement .sbox2 := fun _ => by decide

theorem EncodedOpcode.fsmClk : EncodedOpcode.Statement .fsmClk := fun _ => by decide

theorem EncodedOpcode.lfsrClkInit : EncodedOpcode.Statement .lfsrClkInit := fun _ => by decide

theorem EncodedOpcode.lfsrClkKs : EncodedOpcode.Statement .lfsrClkKs := fun _ => by decide

theorem EncodedOpcode.engLoad : EncodedOpcode.Statement .engLoad := fun _ => by decide

theorem EncodedOpcode.engInit : EncodedOpcode.Statement .engInit := fun _ => by decide

theorem EncodedOpcode.ksWord : EncodedOpcode.Statement .ksWord := fun _ => by decide

theorem EncodedOpcode.ksGen (n : Nat) : EncodedOpcode.Statement (.ksGen n) := fun h => by
  simp only [Instr.wf, fitsCount, decide_eq_true_eq] at h
  exact fieldOp_packWord (by decide) (by omega)

theorem EncodedOpcode.f8Setup : EncodedOpcode.Statement .f8Setup := fun _ => by decide

theorem EncodedOpcode.f8 : EncodedOpcode.Statement .f8 := fun _ => by decide

theorem EncodedOpcode.f9Setup : EncodedOpcode.Statement .f9Setup := fun _ => by decide

theorem EncodedOpcode.f9Hash : EncodedOpcode.Statement .f9Hash := fun _ => by decide

theorem EncodedOpcode.f9Verify : EncodedOpcode.Statement .f9Verify := fun _ => by decide

end Sys2Proof.Laws
end

