-- ==== Sys2Proof/Laws/Program.lean ====
section
/-! SUPPORT. What one operation of a host program can be at the unit's pins, said once, and the steps of a run one by one. -/

namespace Sys2Proof.Laws

open Sys2Proof.Machine

@[simp] theorem runSteps_zero (s : State) : runSteps 0 s = .next s := rfl

/-- A run whose first step goes on is the run from the state after it. -/
theorem runSteps_succ {s t : State} (h : step s = .next t) (n : Nat) : runSteps (n + 1) s = runSteps n t := by
  simp [runSteps, h]

@[simp] theorem timedWait_idle (c : Config) (k : Nat) :
    timedWait c { left := none, drawn := k } = ([readEvent c .status], { left := none, drawn := k }) := rfl

@[simp] theorem timedWait_running (c : Config) (n k : Nat) :
    timedWait c { left := some n, drawn := k } =
      (List.replicate n (readEvent c .status) ++ [.unitTurn, readEvent c .status], { left := none, drawn := k }) := rfl

/-- After a WAIT no command runs, and it takes no draw. -/
@[simp] theorem timedWait_after (c : Config) (t : Timing) : (timedWait c t).2 = { left := none, drawn := t.drawn } := by
  obtain ⟨_ | _, _⟩ := t <;> rfl

@[simp] theorem programEvents_nil (c : Config) (latency : Nat → Nat) (t : Timing) :
    programEvents c latency [] t = some [] := rfl

/-- All that one operation of a run can be: a WAIT, or one access, before which the running command completes if it is due. -/
theorem opEvents_cases {c : Config} {latency : Nat → Nat} {op : HostOp} {t t' : Timing} {es : List HostEvent}
    (h : opEvents c latency op t = some (es, t')) :
    (op = .wait ∧ (es, t') = timedWait c t) ∨
    ∃ e, opAccess c op = some e ∧
      ((t.left = none ∧ es = [e] ∧ t' = startCommand latency op t.drawn) ∨
        (t.left = some 0 ∧ es = [.unitTurn, e] ∧ t' = startCommand latency op t.drawn) ∨
        ∃ n, t.left = some (n + 1) ∧ es = [e] ∧ t' = { t with left := some n }) := by
  have access (h : (opAccess c op).map (fun e => timedAccess latency op e t) = some (es, t')) :
      ∃ e, opAccess c op = some e ∧
        ((t.left = none ∧ es = [e] ∧ t' = startCommand latency op t.drawn) ∨
          (t.left = some 0 ∧ es = [.unitTurn, e] ∧ t' = startCommand latency op t.drawn) ∨
          ∃ n, t.left = some (n + 1) ∧ es = [e] ∧ t' = { t with left := some n }) := by
    obtain ⟨e, he, h⟩ := Option.map_eq_some_iff.mp h
    refine ⟨e, he, ?_⟩
    obtain ⟨_ | _ | n, k⟩ := t <;> simp_all [timedAccess, eq_comm]
  cases op <;> first
    | exact .inl ⟨rfl, (Option.some.inj h).symm⟩
    | exact .inr (access h)

end Sys2Proof.Laws
end

