-- ==== Sys2Proof/Machine/Asm.lean ====
section
/-! DEFINITION. The text of commands and host programs (30_encoding.md R93 to R95): one operation a line, `;` starting a
comment, numbers decimal or hexadecimal. A line that is not in the syntax is refused. -/

namespace Sys2Proof.Machine

/-- A blank between the words of a line. -/
def isBlank (c : Char) : Bool := c == ' ' || c == '\t'

/-- The text without the blanks at its two ends. -/
def trimBlanks (cs : List Char) : List Char := ((cs.dropWhile isBlank).reverse.dropWhile isBlank).reverse

/-- R94: what stands before a comment. -/
def dropComment (cs : List Char) : List Char := cs.takeWhile (· != ';')

/-- The value of a digit in base 16; none for a character that is no digit. DESIGN CHOICE (log entry 15): R93 does not say in
which letter case hexadecimal digits are written; the model takes both. -/
def digitValue (c : Char) : Option Nat :=
  if '0' ≤ c ∧ c ≤ '9' then some (c.toNat - '0'.toNat)
  else if 'a' ≤ c ∧ c ≤ 'f' then some (c.toNat - 'a'.toNat + 10)
  else if 'A' ≤ c ∧ c ≤ 'F' then some (c.toNat - 'A'.toNat + 10)
  else none

/-- The digits of a number in the given base, read after the value `acc`. -/
def digitsValue (base acc : Nat) : List Char → Option Nat
  | [] => some acc
  | c :: cs =>
    match digitValue c with
    | some d => if d < base then digitsValue base (acc * base + d) cs else none
    | none => none

/-- R93: a number, decimal or `0x` hexadecimal. The prefix is taken as R93 prints it, with a small `x` only (log entry 15). -/
def parseNumber (cs : List Char) : Option Nat :=
  match trimBlanks cs with
  | [] => none
  | ['0', 'x'] => none
  | '0' :: 'x' :: ds => digitsValue 16 0 ds
  | ds => digitsValue 10 0 ds

/-- A text cut at its commas. -/
def splitCommas : List Char → List (List Char)
  | [] => [[]]
  | c :: cs =>
    if c = ',' then [] :: splitCommas cs
    else
      match splitCommas cs with
      | [] => [[c]]
      | w :: ws => (c :: w) :: ws

/-- R93: the comma-separated operands of a line, none at all where nothing follows the mnemonic. -/
def operandTexts (cs : List Char) : List (List Char) :=
  if (trimBlanks cs).isEmpty then [] else splitCommas cs

/-- Every operand read as a number; none where one is not. -/
def parseNumbers : List (List Char) → Option (List Nat)
  | [] => some []
  | t :: ts =>
    match parseNumber t, parseNumbers ts with
    | some n, some ns => some (n :: ns)
    | _, _ => none

/-- The first word of a line and what follows it. -/
def firstWord (cs : List Char) : String × List Char :=
  let t := trimBlanks cs
  (String.ofList (t.takeWhile fun c => !isBlank c), t.dropWhile fun c => !isBlank c)

/-- R93: the text of a command, whose operands must fit their fields. -/
def commandOfText (cs : List Char) : Option Instr :=
  match parseNumbers (operandTexts (firstWord cs).2) with
  | some ns =>
    match parseCommand (firstWord cs).1 ns with
    | some i => if i.wf then some i else none
    | none => none
  | none => none

/-- R22: the name of a register. -/
def regName : Reg → String
  | .id => "ID"
  | .ctrl => "CTRL"
  | .status => "STATUS"
  | .cmd => "CMD"
  | .engstat => "ENGSTAT"
  | .key0 => "KEY0"
  | .key1 => "KEY1"
  | .key2 => "KEY2"
  | .key3 => "KEY3"
  | .iv0 => "IV0"
  | .iv1 => "IV1"
  | .iv2 => "IV2"
  | .iv3 => "IV3"
  | .count => "COUNT"
  | .bearer => "BEARER"
  | .direction => "DIRECTION"
  | .fresh => "FRESH"
  | .src => "SRC"
  | .dst => "DST"
  | .lenLo => "LEN_LO"
  | .lenHi => "LEN_HI"
  | .tag => "TAG"
  | .maci => "MACI"
  | .opaLo => "OPA_LO"
  | .opaHi => "OPA_HI"
  | .opbLo => "OPB_LO"
  | .opbHi => "OPB_HI"
  | .opcLo => "OPC_LO"
  | .opcHi => "OPC_HI"
  | .resLo => "RES_LO"
  | .resHi => "RES_HI"
  | .freg => "FREG"
  | .z5 => "Z5"
  | .pLo => "P_LO"
  | .pHi => "P_HI"
  | .qLo => "Q_LO"
  | .qHi => "Q_HI"
  | .evalLo => "EVAL_LO"
  | .evalHi => "EVAL_HI"
  | .s0 => "S0"
  | .s1 => "S1"
  | .s2 => "S2"
  | .s3 => "S3"
  | .s4 => "S4"
  | .s5 => "S5"
  | .s6 => "S6"
  | .s7 => "S7"
  | .s8 => "S8"
  | .s9 => "S9"
  | .s10 => "S10"
  | .s11 => "S11"
  | .s12 => "S12"
  | .s13 => "S13"
  | .s14 => "S14"
  | .s15 => "S15"
  | .r1 => "R1"
  | .r2 => "R2"
  | .r3 => "R3"

/-- The register a name stands for. -/
def regNamed (name : String) : Option Reg := allRegs.find? fun r => regName r == name

/-- A register name's text, without the blanks around it. -/
def parseReg (cs : List Char) : Option Reg := regNamed (String.ofList (trimBlanks cs))

/-- R94: where a WR or RD goes. -/
inductive Place where
  | reg (r : Reg)
  | dbuf (o : Nat)
deriving DecidableEq, Repr

/-- R94: `NAME` or `DBUF+o`. -/
def parsePlace (cs : List Char) : Option Place :=
  match trimBlanks cs with
  | 'D' :: 'B' :: 'U' :: 'F' :: '+' :: o => (parseNumber o).map .dbuf
  | t => (parseReg t).map .reg

/-- A 32-bit value; none where it does not fit. -/
def parseWord (cs : List Char) : Option Word :=
  match parseNumber cs with
  | some n => if n < 2 ^ 32 then some (BitVec.ofNat 32 n) else none
  | none => none

/-- R94 `WR`: the write of `v` at a place. -/
def writeOp : Place → Word → HostOp
  | .reg r, v => .wr r v
  | .dbuf o, v => .wrDbuf o v

/-- R94 `RD`: the read at a place. -/
def readOp : Place → HostOp
  | .reg r => .rd r
  | .dbuf o => .rdDbuf o

/-- R95 `WR64 NAME, v`: the writes of NAME_LO and NAME_HI. -/
def wr64OfText (name v : List Char) : Option (List HostOp) :=
  match parseReg (trimBlanks name ++ ['_', 'L', 'O']), parseReg (trimBlanks name ++ ['_', 'H', 'I']), parseNumber v with
  | some lo, some hi, some n =>
    if n < 2 ^ 64 then some [.wr lo (BitVec.ofNat 32 n), .wr hi (BitVec.ofNat 32 (n / 2 ^ 32))] else none
  | _, _, _ => none

/-- The operations of one `CMD`: the write of an R93 command's word, or of a raw 32-bit word. DESIGN CHOICE (log entry 18): R94
writes `CMD <command>` for an R93 command only, while program P5 of 95_test_vectors.md, which claims this syntax, writes
`CMD 0x02000000`; the model takes both. `EXEC` takes a command only. -/
def cmdOfText (cs : List Char) : Option (List HostOp) :=
  match commandOfText cs with
  | some i => some [.cmd i]
  | none => (parseWord cs).map fun w => [.wr .cmd w]

/-- R94, R95: the operations of one line. -/
def lineOps (line : List Char) : Option (List HostOp) :=
  let rest := (firstWord (dropComment line)).2
  match (firstWord (dropComment line)).1, operandTexts rest with
  | "", [] => some []
  | "WR", [p, v] =>
    match parsePlace p, parseWord v with
    | some pl, some w => some [writeOp pl w]
    | _, _ => none
  | "RD", [p] => (parsePlace p).map fun pl => [readOp pl]
  | "CMD", _ => cmdOfText rest
  | "EXEC", _ => (commandOfText rest).map execOps
  | "WAIT", [] => some [.wait]
  | "INITIALIZE", [] => some initializeOps
  | "GENERATE", [n] => (parseNumber n).bind fun n => if (Instr.ksGen n).wf then some (generateOps n) else none
  | "ENCRYPT", [] => some encryptOps
  | "DECRYPT", [] => some decryptOps
  | "HASH", [] => some hashOps
  | "VERIFY", [] => some verifyOps
  | "WR64", [name, v] => wr64OfText name v
  | _, _ => none

/-- R94: the operations of a program's lines, in order; none where a line is refused. How often a WAIT polls is no part of the
text: each run's LATENCY draws decide it (log entry 19). -/
def programOps : List String → Option (List HostOp)
  | [] => some []
  | l :: ls =>
    match lineOps l.toList, programOps ls with
    | some ops, some more => some (ops ++ more)
    | _, _ => none

end Sys2Proof.Machine
end

