-- ==== Sys2Proof/Tests/Slice0.lean ====
section
/-! SUPPORT. The model's own tests: the well-formedness smoke test, decoded words written out from 30_encoding.md, single steps
against the vectors of 95_test_vectors.md (each test names its vector), and a witness for every statement that has hypotheses. -/

namespace Sys2Proof.Tests

open Sys2Proof Sys2Proof.Machine

-- One test at a time: the stacks of tests elaborated side by side would together pass the check's memory limit.
set_option Elab.async false

/-! ### Well-formedness: an ill-formed command for each check -/

theorem test_wf_mulx_v : (Instr.mulx 256 0).wf = false := by decide
theorem test_wf_mulx_c : (Instr.mulx 0 256).wf = false := by decide
theorem test_wf_mulxpow_v : (Instr.mulxpow 256 0 0).wf = false := by decide
theorem test_wf_mulxpow_c : (Instr.mulxpow 0 256 0).wf = false := by decide
theorem test_wf_mulxpow_i : (Instr.mulxpow 0 0 256).wf = false := by decide
theorem test_wf_mulalpha : (Instr.mulalpha 256).wf = false := by decide
theorem test_wf_divalpha : (Instr.divalpha 256).wf = false := by decide
theorem test_wf_mask8 : (Instr.mask8 256).wf = false := by decide
theorem test_wf_mul64xpow : (Instr.mul64xpow 256).wf = false := by decide
theorem test_wf_ksGen : (Instr.ksGen 65536).wf = false := by decide

/-! ### Decoding: a word for every constructor, opcode and fields written out bit by bit from R86 and R89 -/

theorem test_decode_nop : decode 0b00000000000000000000000000000000#32 = .ok .nop := by decide
theorem test_decode_sreset : decode 0b00000001000000000000000000000000#32 = .ok .sreset := by decide
theorem test_decode_mulx : decode 0b00010000000000001010100110000001#32 = .ok (.mulx 0x81 0xA9) := by decide
theorem test_decode_mulxpow : decode 0b00010001000010001010100100000011#32 = .ok (.mulxpow 3 0xA9 8) := by decide
theorem test_decode_mulalpha : decode 0b00010010000000000000000001001011#32 = .ok (.mulalpha 0x4B) := by decide
theorem test_decode_divalpha : decode 0b00010011000000000000000001001011#32 = .ok (.divalpha 0x4B) := by decide
theorem test_decode_mask8 : decode 0b00010100000000000000000000000110#32 = .ok (.mask8 6) := by decide
theorem test_decode_mul64x : decode 0b00011000000000000000000000000000#32 = .ok .mul64x := by decide
theorem test_decode_mul64xpow : decode 0b00011001000000000000000000111111#32 = .ok (.mul64xpow 63) := by decide
theorem test_decode_mul64 : decode 0b00011010000000000000000000000000#32 = .ok .mul64 := by decide
theorem test_decode_sbox1 : decode 0b00100000000000000000000000000000#32 = .ok .sbox1 := by decide
theorem test_decode_sbox2 : decode 0b00100001000000000000000000000000#32 = .ok .sbox2 := by decide
theorem test_decode_fsmClk : decode 0b00100010000000000000000000000000#32 = .ok .fsmClk := by decide
theorem test_decode_lfsrClkInit : decode 0b00101000000000000000000000000000#32 = .ok .lfsrClkInit := by decide
theorem test_decode_lfsrClkKs : decode 0b00101001000000000000000000000000#32 = .ok .lfsrClkKs := by decide
theorem test_decode_engLoad : decode 0b00110000000000000000000000000000#32 = .ok .engLoad := by decide
theorem test_decode_engInit : decode 0b00110001000000000000000000000000#32 = .ok .engInit := by decide
theorem test_decode_ksWord : decode 0b00110010000000000000000000000000#32 = .ok .ksWord := by decide
theorem test_decode_ksGen : decode 0b00110011000000001000000000011001#32 = .ok (.ksGen 0x8019) := by decide
theorem test_decode_f8Setup : decode 0b01000000000000000000000000000000#32 = .ok .f8Setup := by decide
theorem test_decode_f8 : decode 0b01000001000000000000000000000000#32 = .ok .f8 := by decide
theorem test_decode_f9Setup : decode 0b01001000000000000000000000000000#32 = .ok .f9Setup := by decide
theorem test_decode_f9Hash : decode 0b01001001000000000000000000000000#32 = .ok .f9Hash := by decide
theorem test_decode_f9Verify : decode 0b01001010000000000000000000000000#32 = .ok .f9Verify := by decide
theorem test_decode_illegal : decode 0xFF000000#32 = .error .illegal := by decide
theorem test_decode_reserved : decode 0x33FF0000#32 = .error .reserved := by decide
theorem test_decodeTableWord : decodeTableWord 32 0x1108A901 = some (.mulxpow 1 0xA9 8) := by decide

/-- R93: the assembler's words, and its refusal of a field that does not fit (U9). -/
theorem test_assemble : assemble "MULX" [0x80, 0xA9] = some 0x1000A980#32 := by decide
theorem test_assemble_refuses : assemble "KS_GEN" [65536] = none := by decide

/-- R94, R95: lines of a host program. -/
theorem test_line_exec : lineOps "EXEC MULXPOW 0x01, 0xA9, 8 ; P1 line 1".toList =
    some [.cmd (.mulxpow 1 0xA9 8), .wait] := by decide +kernel
theorem test_line_wr64 : lineOps "WR64 OPA, 0x0123456789ABCDEF".toList =
    some [.wr .opaLo 0x89ABCDEF#32, .wr .opaHi 0x01234567#32] := by decide +kernel
/-- Program P5, step 3: a raw command word (log entry 18). -/
theorem test_line_raw : lineOps "CMD 0x02000000".toList = some [.wr .cmd 0x02000000#32] := by decide +kernel

/-- R95, log entry 19: a draw of 1 puts one poll before the completion, and the WAIT that follows finds the unit idle. -/
theorem test_program_wait : programEvents Config.default (fun _ => 1) [.cmd .nop, .wait, .wait] ⟨none, 0⟩ =
    some [.write 0x00C 32 0, .read 0x008 32, .unitTurn, .read 0x008 32, .read 0x008 32] := by decide +kernel
/-- Log entry 19: with no WAIT the command completes all the same, here before the second read of STATUS. -/
theorem test_program_no_wait : programEvents Config.default (fun _ => 1) [.cmd .nop, .rd .status, .rd .status] ⟨none, 0⟩ =
    some [.write 0x00C 32 0, .read 0x008 32, .unitTurn, .read 0x008 32] := by decide +kernel

/-! ### Helpers -/

/-- The state in which the unit's next step leaves `s` with the word `w` latched. -/
def ran (w : Nat) (s : State) : Option State :=
  match step (s.withFetchWord 32 w) with
  | .next t => some t
  | _ => none

/-- RES after the word `w` on reset operands. -/
def resAfter (w : Nat) : Option DWord := (ran w State.reset).map (·.res)

/-- STATUS after the word `w` in the state `s`. -/
def statusAfter (w : Nat) (s : State) : Option Word := (ran w s).map statusWord

/-- The reset state with 64-bit operands. -/
def withOps (a b c : DWord) : State := { State.reset with opr := { State.reset.opr with opa := a, opb := b, opc := c } }

/-- The key words of V-KAT-1 and V-KAT-2. -/
def katKey : Quad := { w0 := 0x2BD6459F, w1 := 0x82C5B300, w2 := 0x952C4910, w3 := 0x4881FF48 }

/-- The IV words of V-KAT-1. -/
def katIv : Quad := { w0 := 0xEA024714, w1 := 0xAD5C4D84, w2 := 0xDF1F9B25, w3 := 0x1C0BF45F }

/-- The reset state with the V-KAT-1 key and IV. -/
def katState : State := { State.reset with opr := { State.reset.opr with key := katKey, iv := katIv } }

/-- The engine of V-ENG-2. -/
def katEngine : Engine :=
  { lfsr := { s0 := 0x8F1215A6, s1 := 0xE003A052, s2 := 0x9241C929, s3 := 0x68D7BF8C, s4 := 0x16BF4C2A, s5 := 0x8DEF9D70,
              s6 := 0x32381704, s7 := 0x11DD346A, s8 := 0xE18B81EA, s9 := 0x77EBD4FE, s10 := 0x57ED9505, s11 := 0x0C33C0EF,
              s12 := 0x1A037B59, s13 := 0x97591E82, s14 := 0xA91CCB44, s15 := 0x7B48E04F },
    fsm := { r1 := 0x61DA9249, r2 := 0x427DF38C, r3 := 0x0FB6B101 } }

/-- A streaming state with the engine of V-ENG-2, not primed. -/
def streamState : State :=
  { State.reset with eng := katEngine, engstat := { state := .streaming, primed := false, f9valid := false } }

/-- The operand registers of V-KAT-2 with the bit length of V-F8-16. -/
def cipherOperands : OperandRegs :=
  { State.reset.opr with key := katKey, count := 0x72A4F20F, bearer := 0x0C, direction := 1, dst := 0x100, len := 36 }

/-- The reset state with the V-KAT-2 operands and the V-F8-16 message. -/
def cipherState : State :=
  { State.reset with opr := cipherOperands, dbuf := [(0, 0x7E), (1, 0xC6), (2, 0x12), (3, 0x72), (4, 0x7F)] }

/-- `cipherState` after F8_SETUP. -/
def cipherReady : State := runInitialize (packedKey cipherState) (f8Iv cipherState) cipherState

/-- The operand registers of section 7's setup. -/
def integrityOperands : OperandRegs := { State.reset.opr with key := katKey, count := 0x38A6F056, fresh := 0x05D2EC49 }

/-- The context of V-F9-1 with the message of V-F9-7 and its MAC-I in TAG. -/
def hashState : State :=
  { State.reset with
    opr := { integrityOperands with len := 8, tag := 0xBF037566 }
    f9 := { p := 0xDC0D53252A5D3190, q := 0x7E1B8E2825EC4CAA, z5 := 0x63D9C77C }
    engstat := { state := .uninit, primed := false, f9valid := true }
    dbuf := [(0, 0xA5)] }

/-- The ramp of V-LF-1, FREG as in V-LF-2. -/
def rampState : State :=
  { State.reset with
    freg := 0xDEADBEEF
    eng := { State.reset.eng with lfsr :=
      { s0 := 0, s1 := 0x01010101, s2 := 0x02020202, s3 := 0x03030303, s4 := 0x04040404, s5 := 0x05050505, s6 := 0x06060606,
        s7 := 0x07070707, s8 := 0x08080808, s9 := 0x09090909, s10 := 0x0A0A0A0A, s11 := 0x0B0B0B0B, s12 := 0x0C0C0C0C,
        s13 := 0x0D0D0D0D, s14 := 0x0E0E0E0E, s15 := 0x0F0F0F0F } } }

/-- A state with the word `w` latched. -/
def busyState (w : Word) : State := issueCommand w State.reset

/-! ### One step of every command -/

/-- V-CTL-2. -/
theorem test_nop : statusAfter 0x00000000 { State.reset with status := { State.reset.status with
    err := true, errcode := .state } } = some 0x00000006#32 := by decide +kernel
/-- V-CTL-1: P and ENGSTAT cleared, DBUF not. -/
theorem test_sreset : (ran 0x01000000 hashState).map (fun t => (t.f9.p, engstatWord t, dbufByte t 0, statusWord t)) =
    some (0, 0, 0xA5, 2) := by decide +kernel
/-- V-FA-5. -/
theorem test_mulx_wraps : resAfter 0x1000A9FF = some 0x57 := by decide +kernel
/-- V-FA-3. -/
theorem test_mulx_plain : resAfter 0x1000A97F = some 0xFE := by decide +kernel
/-- V-FA-14. -/
theorem test_mulxpow : resAfter 0x1117A903 = some 0x8A := by decide +kernel
/-- V-FA-9. -/
theorem test_mulxpow_zero : resAfter 0x1100A957 = some 0x57 := by decide +kernel
/-- V-FA-23. -/
theorem test_mulalpha : resAfter 0x1200004B = some 0xA7616032 := by decide +kernel
/-- V-FA-29. -/
theorem test_divalpha : resAfter 0x1300004B = some 0x4CFBEEF6 := by decide +kernel
/-- V-FA-36. -/
theorem test_mask8 : resAfter 0x14000006 = some 0xFC := by decide +kernel
/-- V-FA-39, V-ERR-6. -/
theorem test_mask8_operand : statusAfter 0x14000009 State.reset = some 0x00000036#32 := by decide +kernel
/-- V-FA-43. -/
theorem test_mul64x : (ran 0x18000000 (withOps 0xFFFFFFFFFFFFFFFF 0 0x1B)).map (·.res) =
    some 0xFFFFFFFFFFFFFFE5 := by decide +kernel
/-- V-FA-52. -/
theorem test_mul64xpow : (ran 0x1900000A (withOps 0x0123456789ABCDEF 0 0x1B)).map (·.res) =
    some 0x8D159E26AF37BC6C := by decide +kernel
/-- V-FA-57. -/
theorem test_mul64 : (ran 0x1A000000 (withOps 0x0123456789ABCDEF 0xFEDCBA9876543210 0x1B)).map (·.res) =
    some 0x48827AB55D976FA0 := by decide +kernel
/-- V-SB-3; OPA_HI is ignored (R143). -/
theorem test_sbox1 : (ran 0x20000000 (withOps 0xFFFFFFFF01234567 0 0)).map (·.res) = some 0x24234FF9 := by decide +kernel
/-- V-SB-7; OPA_HI is ignored (R144). -/
theorem test_sbox2 : (ran 0x21000000 (withOps 0xFFFFFFFF01234567 0 0)).map (·.res) = some 0x40CD6630 := by decide +kernel
/-- V-SB-10. -/
theorem test_fsmClk : (ran 0x22000000 { State.reset with eng :=
    { lfsr := { State.reset.eng.lfsr with s15 := 0x11111111, s5 := 0x22222222 },
      fsm := { r1 := 0x33333333, r2 := 0x44444444, r3 := 0x55555555 } } }).map (fun t => (t.freg, t.eng.fsm)) =
    some (0, { r1 := 0xBBBBBBBB, r2 := 0xC3C3C3C3, r3 := 0xEFEFEFEF }) := by decide +kernel
/-- V-LF-2. -/
theorem test_lfsrClkInit : (ran 0x28000000 rampState).map (fun t => (t.eng.lfsr.s15, t.eng.lfsr.s0)) =
    some (0x34CD8CD4, 0x01010101) := by decide +kernel
/-- V-LF-1. -/
theorem test_lfsrClkKs : (ran 0x29000000 rampState).map (fun t => (t.eng.lfsr.s15, t.eng.lfsr.s14)) =
    some (0xEA60323B, 0x0F0F0F0F) := by decide +kernel
/-- V-ENG-1. -/
theorem test_engLoad : (ran 0x30000000 katState).map (fun t => (t.eng.lfsr.s0, t.eng.lfsr.s9, t.eng.lfsr.s15, engstatWord t)) =
    some (0xD429BA60, 0x6131B8A0, 0xA283B85C, 1) := by decide +kernel
/-- V-KAT-1, V-ENG-2: R1 and the whole engine after ENG_INIT. -/
theorem test_engInit : (ran 0x31000000 katState).map (·.eng) = some katEngine := by decide +kernel
/-- V-KAT-1, V-ENG-3: the first keystream word, after the priming clock. -/
theorem test_ksWord : (ran 0x32000000 streamState).map (fun t => (t.res, engstatWord t)) =
    some (0xABEE9704, 6) := by decide +kernel
/-- V-ERR-8. -/
theorem test_ksWord_state : statusAfter 0x32000000 State.reset = some 0x00000046#32 := by decide +kernel
/-- R173's example, at an unaligned DST. -/
theorem test_ksGen : (ran 0x33000002 { streamState with opr := { streamState.opr with dst := 2 } }).map (fun t => memRead t 2 8) =
    some [0xAB, 0xEE, 0x97, 0x04, 0x7A, 0xC3, 0x13, 0x73] := by decide +kernel
/-- V-ERR-10: the range check, with nothing advanced. -/
theorem test_ksGen_range : (ran 0x33000002 { streamState with opr := { streamState.opr with dst := 0xFFC } }).map
    (fun t => (statusWord t, engstatWord t, t.dbuf)) = some (0x56, 2, []) := by decide +kernel
/-- V-KAT-2: the IV of UEA2, and V-F8-1: the first keystream word after F8_SETUP. -/
theorem test_f8Setup : (ran 0x40000000 cipherState).map (fun t => (f8Iv t, nextWord t 0)) =
    some ({ w0 := 0x64000000, w1 := 0x72A4F20F, w2 := 0x64000000, w3 := 0x72A4F20F }, 0xF22DB45B) := by decide +kernel
/-- V-F8-16. -/
theorem test_f8 : (ran 0x41000000 cipherReady).map (fun t => memRead t 0x100 8) =
    some [0x8C, 0xEB, 0xA6, 0x29, 0x40, 0, 0, 0] := by decide +kernel
/-- V-ERR-7: E_OPERAND beats E_STATE. -/
theorem test_f8_operand : statusAfter 0x41000000 { State.reset with opr := { State.reset.opr with len := 0x100000000 } } =
    some 0x00000036#32 := by decide +kernel
/-- V-F9-1. -/
theorem test_f9Setup : (ran 0x48000000 { State.reset with opr := integrityOperands }).map
    (fun t => (t.f9, t.eng.fsm.r1, engstatWord t)) = some (hashState.f9, 0x824E3F12, 0xE) := by decide +kernel
/-- V-F9-7. -/
theorem test_f9Hash : (ran 0x49000000 hashState).map (fun t => (t.eval, t.maci)) =
    some (0xDCDAB21A963059DF, 0xBF037566) := by decide +kernel
/-- V-ERR-15. -/
theorem test_f9Hash_range : statusAfter 0x49000000 { hashState with opr := { hashState.opr with len := 0xFFFFFFFFFFFFFFFF } } =
    some 0x00000056#32 := by decide +kernel
/-- V-F9-15, the tag that matches. -/
theorem test_f9Verify : statusAfter 0x4A000000 hashState = some 0x00000102#32 := by decide +kernel
/-- V-F9-15, the tag that does not. -/
theorem test_f9Verify_mismatch : statusAfter 0x4A000000 { hashState with opr := { hashState.opr with tag := 0xBF037567 } } =
    some 0x00000002#32 := by decide +kernel

/-! ### The port, the interrupt and undecodable words -/

/-- V-ERR-1. -/
theorem test_illegal : statusAfter 0x02000000 State.reset = some 0x00000016#32 := by decide +kernel
/-- V-ERR-5. -/
theorem test_reserved_first : statusAfter 0x33FF0000 State.reset = some 0x00000026#32 := by decide +kernel
/-- V-CTL-3: a KEY0 write while BUSY = 1. -/
theorem test_busy_write : (fun t => (readReg .key0 t, statusWord t)) (hostWrite 0x020 32 1 (busyState 0x31000000)) =
    (0, 0x00000009) := by decide +kernel
/-- V-CTL-4: the interrupt after a NOP with IRQ_EN = 1. -/
theorem test_irq : (ran 0 (writeCtrl 1 State.reset)).map (fun t => (irq t, irq (acknowledge 2 t))) = some (true, false) := by
  decide +kernel
/-- V-CTL-5. -/
theorem test_misaligned : hostRead 0x002 32 State.reset = { State.reset with rsp := some .busError } := by decide +kernel
/-- V-CTL-6. -/
theorem test_reserved_offset : (hostRead 0x018 32 State.reset).rsp = some (.data 0) := by decide +kernel
/-- V-CTL-7. -/
theorem test_engstat_warl : engstatWord (hostWrite 0x010 32 3 State.reset) = 0 := by decide +kernel
/-- R62: DBUF word 1 written and read back, big-endian. -/
theorem test_dbuf_word : (fun t => (dbufByte t 4, (hostRead 0x10004 32 t).rsp)) (hostWrite 0x10004 32 0x7EC61272 State.reset) =
    (0x7E, some (.data 0x7EC61272)) := by decide +kernel
/-- R61: the last word of DBUF is in the window, and the offset after it is reserved. -/
theorem test_dbuf_end : (targetOf Config.default 0x10FFC, targetOf Config.default 0x11000) = (.dbufWord 1023, .reserved) := by
  decide +kernel

/-! ### Witnesses: concrete data that meet the hypotheses of the statement each is named after, clause by clause -/

/-- The reset state with one host event to come. -/
def portState (e : HostEvent) : State := { State.reset with host := [e] }

/-- A streaming, primed state with the engine of V-ENG-2, the given byte offsets and bit length. -/
def streamAt (src dst : Word) (len : DWord) : State :=
  { State.reset with
    eng := katEngine
    engstat := { state := .streaming, primed := true, f9valid := false }
    opr := { State.reset.opr with src := src, dst := dst, len := len } }

/-- A valid F9 context with the given byte offset and bit length. -/
def hashAt (src : Word) (len : DWord) : State := { hashState with opr := { hashState.opr with src := src, len := len } }

theorem witness_DecodeOfEncodeIsCommand :
    Instr.nop.wf = true ∧ (Instr.mulxpow 255 255 255).wf = true ∧ (Instr.ksGen 65535).wf = true := by decide

theorem witness_EncodeOfDecodeIsWord :
    decode 0x01000000#32 = .ok .sreset ∧ decode 0x11FFFFFF#32 = .ok (.mulxpow 255 255 255) ∧
      decode 0x3300FFFF#32 = .ok (.ksGen 65535) := by decide

theorem witness_StepRunsDecodedCommand :
    (busyState 0x31000000).pending = some 0x31000000#32 ∧ decode 0x31000000#32 = .ok .engInit ∧
      (busyState 0x31000000).host = [] ∧
      { busyState 0x31000000 with host := [.unitTurn, .powerReset] }.host = .unitTurn :: [.powerReset] :=
  ⟨rfl, by decide, rfl, rfl⟩

theorem witness_StepWithoutCommand :
    State.reset.host = [] ∧ State.reset.pending = none ∧ (portState .unitTurn).pending = none ∧
      (portState .unitTurn).host = .unitTurn :: [] ∧
      (busyState 0x02000000).host = [] ∧ (busyState 0x02000000).pending = some 0x02000000#32 ∧
      decode 0x02000000#32 = .error .illegal ∧
      { busyState 0x31000001 with host := [.unitTurn, .powerReset] }.host = .unitTurn :: [.powerReset] ∧
      { busyState 0x31000001 with host := [.unitTurn, .powerReset] }.pending = some 0x31000001#32 ∧
      decode 0x31000001#32 = .error .reserved :=
  ⟨rfl, rfl, rfl, rfl, rfl, rfl, by decide, rfl, rfl, by decide⟩

/-- The first and the last word of the window, and the word just past it, for a read and for a write. -/
theorem witness_StepPerformsHostAccess :
    (portState (.read 0x1FFFC 32)).host = .read 0x1FFFC 32 :: [] ∧ (portState (.write 0 32 7)).host = .write 0 32 7 :: [] ∧
      (portState (.read 0x20000 32)).host = .read 0x20000 32 :: [] ∧ State.reset.cfg.base = 0 ∧
      ({ baseIndex := 1, lastWord := 0 } : Config).base = 0x20000 :=
  ⟨rfl, rfl, rfl, rfl, rfl⟩

theorem witness_ErrorChangesOnlyStatus :
    completion 0x02000000#32 State.reset = .next (afterError .illegal State.reset) ∧
      (afterError .illegal State.reset).status.errcode ≠ .ok :=
  ⟨rfl, by decide⟩

theorem witness_EveryCommandWordCompletes : decode 0x00000000#32 ≠ .ok .sreset ∧ decode 0x02000000#32 ≠ .ok .sreset := by
  decide

theorem witness_ErrorPriority :
    completion 0x33FF0000#32 State.reset = .next (afterError .rsvd State.reset) ∧
      ∃ t, completion 0x00000000#32 State.reset = .next t :=
  ⟨rfl, _, rfl⟩

theorem witness_BusyWriteIsDropped :
    busy (busyState 0) = true ∧ Reg.id ≠ .ctrl ∧ Reg.id ≠ .status ∧ Reg.r3 ≠ .ctrl ∧ Reg.r3 ≠ .status ∧
      4 * 0 < (busyState 0).cfg.dbufSize ∧ 4 * 1023 < (busyState 0).cfg.dbufSize := by decide +kernel

theorem witness_BusyReadIsUnspecified :
    busy (busyState 0) = true ∧ Reg.engstat ≠ .id ∧ Reg.engstat ≠ .ctrl ∧ Reg.engstat ≠ .status ∧ Reg.engstat ≠ .cmd ∧
      4 * 0 < (busyState 0).cfg.dbufSize ∧ 4 * 1023 < (busyState 0).cfg.dbufSize := by decide +kernel

theorem witness_MisalignedAccessIsRefused :
    (8 ≠ 32 ∨ 0 % 4 ≠ 0) ∧ (64 ≠ 32 ∨ 4 % 4 ≠ 0) ∧ (32 ≠ 32 ∨ 0x1FFFF % 4 ≠ 0) ∧ (32 ≠ 32 ∨ 1 % 4 ≠ 0) := by decide

theorem witness_DbufWindowPacksBigEndian :
    busy State.reset = false ∧ 4 * 0 < State.reset.cfg.dbufSize ∧ 4 * 1023 < State.reset.cfg.dbufSize ∧ 3 < 4 ∧
      (4091 < 4 * 1023 ∨ 4 * 1023 + 4 ≤ 4091) ∧ (4 < 4 * 0 ∨ 4 * 0 + 4 ≤ 4) := by decide +kernel

/-- The first and the last offset of the map. -/
theorem witness_RegisterMapReads :
    busy State.reset = false ∧ (0x000, 0x534E3347#32) ∈ Spec.registerReads State.reset ∧
      (0x148, 0#32) ∈ Spec.registerReads State.reset := by decide +kernel

theorem witness_RegisterReadAfterWrite :
    busy State.reset = false ∧ (0x004, { State.reset with ctrl := { irqEn := true } }) ∈ Spec.registerWrites 1 State.reset ∧ Spec.plainMask .ctrl = some 1 ∧ Spec.plainMask .bearer = some 0x1F ∧
      Spec.plainMask .r3 = some 0xFFFFFFFF ∧ Reg.lenHi ≠ .lenLo ∧ 0x0AC ∈ [0x000, 0x064, 0x088, 0x08C, 0x0A8, 0x0AC] := by
  decide

theorem witness_EngstatWriteIsWarl : busy State.reset = false ∧ busy streamState = false := by decide

/-- The first reserved offset of the register window and its last, and the first beyond DBUF. -/
theorem witness_ReservedOffsetsReadZero :
    busy State.reset = false ∧ 0x014 % 4 = 0 ∧ (∀ r, regOffset r ≠ 0x014) ∧ 0xFFFC % 4 = 0 ∧ (∀ r, regOffset r ≠ 0xFFFC) ∧
      0x11000 % 4 = 0 ∧ 0x10000 + State.reset.cfg.dbufSize ≤ 0x11000 :=
  ⟨rfl, rfl, by intro r; cases r <;> decide, rfl, by intro r; cases r <;> decide, rfl, by decide⟩

theorem witness_CmdWriteIssuesCommand : busy State.reset = false := rfl

theorem witness_AcknowledgeDropsInterrupt : (6 : Word) &&& 6 = 6 ∧ (0xFFFFFFFF : Word) &&& 6 = 6 := by decide

theorem witness_HostCannotReachRunningCommand :
    ∃ t, busy { busyState 0x31000000 with host := [.write 0x020 32 1] } = true ∧
      step { busyState 0x31000000 with host := [.write 0x020 32 1] } = .next t ∧
      HostEvent.write 0x020 32 1 ≠ .unitTurn ∧ HostEvent.write 0x020 32 1 ≠ .powerReset :=
  ⟨_, rfl, rfl, by decide, by decide⟩

/-- An idle unit, a command that completes before the first poll, and one that lets two polls pass. -/
theorem witness_WaitPollsUntilIdle :
    busy (portState (.read 0x008 32)) = (⟨none, 0⟩ : Timing).left.isSome ∧
      (portState (.read 0x008 32)).host = (timedWait Config.default ⟨none, 0⟩).1 ∧
      busy (busyState 0) = (⟨some 0, 1⟩ : Timing).left.isSome ∧
      { busyState 0 with host := [.unitTurn, .read 0x008 32] }.host = (timedWait Config.default ⟨some 0, 1⟩).1 ∧
      { busyState 0 with host := [.read 0x008 32, .read 0x008 32, .unitTurn, .read 0x008 32] }.host =
        (timedWait Config.default ⟨some 2, 1⟩).1 ∧ 1 < (⟨some 2, 1⟩ : Timing).left.getD 0 :=
  ⟨rfl, rfl, rfl, rfl, rfl, by decide⟩

theorem witness_ResetValues : (portState .powerReset).host = .powerReset :: [] ∧ Reg.id ≠ .status := ⟨rfl, by decide⟩

theorem witness_MaskResult : (0#8).toNat ≤ 8 ∧ (8#8).toNat ≤ 8 ∧ ¬(9#8).toNat ≤ 8 ∧ ¬(255#8).toNat ≤ 8 := by decide

theorem witness_SubstitutionsAreBijective :
    ((0x1B : Byte) = 0x1B ∨ (0x1B : Byte) = 0x69) ∧ ((0x69 : Byte) = 0x1B ∨ (0x69 : Byte) = 0x69) := by decide

theorem witness_TablesMatchFormulas : gfMul 0x53 0xCA 0x1B = 1 ∧ gfMul 0x01 0x01 0x1B = 1 ∧ (0x01 : Byte) ≠ 0 := by
  decide +kernel

theorem witness_InitialisationByHand : (2 : Word) &&& 7 = 2 ∧ (0xA : Word) &&& 7 = 2 := by decide

theorem witness_KeystreamWordResult :
    streamState.engstat.state = .streaming ∧ streamState.engstat.primed = false ∧
      (streamAt 0 0 0).engstat.state = .streaming ∧ (streamAt 0 0 0).engstat.primed = true := by decide

/-- No word at the end of DBUF, one word in its last four bytes, and all of DBUF. -/
theorem witness_KeystreamGenResult :
    (streamAt 0 4096 0).engstat.state = .streaming ∧
      dstOffset (streamAt 0 4096 0) + 4 * (0 : BitVec 16).toNat ≤ (streamAt 0 4096 0).cfg.dbufSize ∧
      dstOffset (streamAt 0 4092 0) + 4 * (1 : BitVec 16).toNat ≤ (streamAt 0 4092 0).cfg.dbufSize ∧
      dstOffset (streamAt 0 0 0) + 4 * (1024 : BitVec 16).toNat ≤ (streamAt 0 0 0).cfg.dbufSize := by decide +kernel

theorem witness_KeystreamGenSplits :
    (streamAt 0 4088 0).engstat.state = .streaming ∧
      dstOffset (streamAt 0 4088 0) + 4 * (1 + 1) ≤ (streamAt 0 4088 0).cfg.dbufSize ∧
      dstOffset (streamAt 0 4096 0) + 4 * (0 + 0) ≤ (streamAt 0 4096 0).cfg.dbufSize := by decide +kernel

theorem witness_KeystreamNeedsStream :
    State.reset.engstat.state ≠ .streaming ∧
      { State.reset with engstat := { State.reset.engstat with state := .initializing } }.engstat.state ≠ .streaming := by
  decide

/-- The empty message with both ranges at the end of DBUF, one bit in its last word, and the whole buffer. -/
theorem witness_CipherResult :
    (streamAt 4096 4096 0).opr.len.toNat < 2 ^ 32 ∧ (streamAt 4096 4096 0).engstat.state = .streaming ∧
      srcOffset (streamAt 4096 4096 0) + (0 + 7) / 8 ≤ 4096 ∧ dstOffset (streamAt 4096 4096 0) + 4 * ((0 + 31) / 32) ≤ 4096 ∧
      srcOffset (streamAt 4095 4092 1) + (1 + 7) / 8 ≤ 4096 ∧ dstOffset (streamAt 4095 4092 1) + 4 * ((1 + 31) / 32) ≤ 4096 ∧
      srcOffset (streamAt 0 0 32768) + (32768 + 7) / 8 ≤ 4096 ∧
      dstOffset (streamAt 0 0 32768) + 4 * ((32768 + 31) / 32) ≤ 4096 ∧ State.reset.cfg.dbufSize = 4096 := by decide +kernel

/-- One bit of message: the masked bits are 1 to 31. -/
theorem witness_CipherMasksBeyondLength :
    ∃ t, exec .f8 (streamAt 0 0 1) = .next t ∧ t.status.errcode = .ok ∧ (streamAt 0 0 1).opr.len.toNat ≤ 1 ∧
      31 < 32 * (((streamAt 0 0 1).opr.len.toNat + 31) / 32) :=
  ⟨_, rfl, rfl, by decide, by decide⟩

/-- One bit ciphered and deciphered, the second time into the last word of DBUF; bit 0 is message, bits 1 and 31 masked. -/
theorem witness_CipherInvertsItself :
    ∃ t, exec .f8 (streamAt 0 8 1) = .next t ∧ t.status.errcode = .ok ∧
      (4092 : Word).toNat + 4 * (((streamAt 0 8 1).opr.len.toNat + 31) / 32) ≤ (streamAt 0 8 1).cfg.dbufSize ∧
      0 < (streamAt 0 8 1).opr.len.toNat ∧ (streamAt 0 8 1).opr.len.toNat ≤ 1 ∧
      31 < 32 * (((streamAt 0 8 1).opr.len.toNat + 31) / 32) :=
  ⟨_, rfl, rfl, by decide, by decide, by decide, by decide⟩

theorem witness_MessageBlocksAreMessageBits : 0 < (1 + 63) / 64 ∧ 1 < (65 + 63) / 64 ∧ 0 < 64 ∧ 63 < 64 := by decide

/-- An eight-bit message in the last byte of DBUF, and the whole buffer. -/
theorem witness_HashResult :
    (hashAt 4095 8).engstat.f9valid = true ∧ srcOffset (hashAt 4095 8) + ((hashAt 4095 8).opr.len.toNat + 7) / 8 ≤ 4096 ∧
      (hashAt 0 32768).engstat.f9valid = true ∧
      srcOffset (hashAt 0 32768) + ((hashAt 0 32768).opr.len.toNat + 7) / 8 ≤ 4096 ∧ hashState.cfg.dbufSize = 4096 := by
  decide +kernel

theorem witness_VerifyResult :
    hashState.engstat.f9valid = true ∧
      srcOffset hashState + (hashState.opr.len.toNat + 7) / 8 ≤ hashState.cfg.dbufSize ∧
      srcOffset (hashAt 4095 8) + ((hashAt 4095 8).opr.len.toNat + 7) / 8 ≤ (hashAt 4095 8).cfg.dbufSize := by decide +kernel

theorem witness_EmptyMessageHash :
    (hashAt 4096 0).engstat.f9valid = true ∧ (hashAt 4096 0).opr.len = 0 ∧
      srcOffset (hashAt 4096 0) ≤ (hashAt 4096 0).cfg.dbufSize := by decide +kernel

/-- The same message byte at another offset, before another byte, beside another engine. -/
def sameMessage : State := { hashAt 1 8 with dbuf := [(1, 0xA5), (2, 0xFF)], eng := katEngine }

theorem witness_HashDependsOnlyOnMessage :
    ∃ t, exec .f9Hash hashState = .next t ∧ t.status.errcode = .ok ∧ sameMessage.f9 = hashState.f9 ∧
      sameMessage.engstat.f9valid = true ∧ sameMessage.opr.len = hashState.opr.len ∧
      srcOffset sameMessage + (sameMessage.opr.len.toNat + 7) / 8 ≤ sameMessage.cfg.dbufSize ∧
      ∀ j, j < hashState.opr.len.toNat →
        messageBit sameMessage (srcOffset sameMessage) j = messageBit hashState (srcOffset hashState) j :=
  ⟨_, rfl, rfl, rfl, rfl, rfl, by decide +kernel, by decide +kernel⟩

theorem witness_CommandsWriteOnlyTheirRegisters :
    ∃ t, exec .nop State.reset = .next t ∧ Instr.nop ≠ .sreset ∧ Spec.writesRes .nop = false ∧ Spec.writesEngine .nop = false ∧
      Spec.writesEngstat .nop = false ∧ Spec.writesDbuf .nop = false ∧ Spec.writesHash .nop = false ∧ Instr.nop ≠ .fsmClk ∧
      Instr.nop ≠ .f9Setup ∧ Instr.nop ≠ .f9Verify :=
  ⟨_, rfl, by decide, rfl, rfl, rfl, rfl, rfl, by decide, by decide, by decide⟩

theorem witness_StepKeepsInvariant :
    ∃ t, Inv (busyState 0x10000101) ∧ step (busyState 0x10000101) = .next t :=
  ⟨_, ⟨rfl, fun _ => rfl⟩, rfl⟩

end Sys2Proof.Tests
end

section
/-! The host port, case by case: what one access at a register's offset, at a DBUF word's offset, or in a form the port does not
take, does (20_memory.md R61 to R68); and from these the statements about the port. -/

namespace Sys2Proof.Proofs

open Sys2Proof.Machine Sys2Proof.Laws

/-! ### Which accesses the port takes, and what they name -/

theorem goodAccess_iff (off size : Nat) : goodAccess off size = true ↔ size = 32 ∧ off % 4 = 0 := by
  simp [goodAccess]

theorem regOffset_mod_four (r : Reg) : regOffset r % 4 = 0 := by
  cases r <;> rfl

@[simp] theorem goodAccess_regOffset (r : Reg) : goodAccess (regOffset r) 32 = true :=
  (goodAccess_iff _ _).2 ⟨rfl, regOffset_mod_four r⟩

@[simp] theorem goodAccess_dbufOffset (j : Nat) : goodAccess (0x10000 + 4 * j) 32 = true :=
  (goodAccess_iff _ _).2 ⟨rfl, by omega⟩

/-- The address map at the offset of a DBUF word within the buffer. -/
theorem targetOf_dbufOffset {c : Config} {j : Nat} (h : 4 * j < c.dbufSize) : targetOf c (0x10000 + 4 * j) = .dbufWord j := by
  have above : ¬ 0x10000 + 4 * j < dbufWindow := by simp [dbufWindow]
  have below : 0x10000 + 4 * j < dbufWindow + c.dbufSize := Nat.add_lt_add_left h _
  have index : (0x10000 + 4 * j - dbufWindow) / 4 = j := by simp only [dbufWindow]; omega
  simp only [targetOf, above, below, index, ↓reduceIte]

theorem writableWhileBusy_iff (r : Reg) : writableWhileBusy r = true ↔ r = .ctrl ∨ r = .status := by
  simp [writableWhileBusy]

/-! ### Reads and writes -/

theorem hostRead_of_bad {off size : Nat} (h : goodAccess off size = false) (s : State) :
    hostRead off size s = respond .busError s := by
  simp [hostRead, h]

theorem hostWrite_of_bad {off size : Nat} (h : goodAccess off size = false) (w : Word) (s : State) :
    hostWrite off size w s = respond .busError s := by
  simp [hostWrite, h]

/-- R68, R23: a write of a register that the unit takes, either because it is idle or because BUSY = 1 does not guard that
register. -/
theorem hostWrite_reg_taken {r : Reg} {s : State} (h : busy s = false ∨ writableWhileBusy r = true) (w : Word) :
    hostWrite (regOffset r) 32 w s = respond .accepted (writeReg r w s) := by
  rcases h with h | h <;> simp [hostWrite, targetOf_regOffset, h]

/-- R68: a write of a register that BUSY = 1 guards. -/
theorem hostWrite_reg_dropped {r : Reg} {s : State} (hb : busy s = true) (hr : writableWhileBusy r = false) (w : Word) :
    hostWrite (regOffset r) 32 w s = respond .accepted (setOverrun s) := by
  simp [hostWrite, targetOf_regOffset, hb, hr]

/-- R62: an idle unit answers a read of a DBUF word with that word. -/
theorem hostRead_dbufWord_idle {s : State} {j : Nat} (hb : busy s = false) (hj : 4 * j < s.cfg.dbufSize) :
    hostRead (0x10000 + 4 * j) 32 s = respond (.data (dbufWord s j)) s := by
  simp [hostRead, targetOf_dbufOffset hj, hb]

theorem hostWrite_dbufWord_idle {s : State} {j : Nat} (hb : busy s = false) (hj : 4 * j < s.cfg.dbufSize) (w : Word) :
    hostWrite (0x10000 + 4 * j) 32 w s = respond .accepted (writeDbufWord j w s) := by
  simp [hostWrite, targetOf_dbufOffset hj, hb]

/-- R68: a write of a DBUF word while BUSY = 1. -/
theorem hostWrite_dbufWord_busy {s : State} {j : Nat} (hb : busy s = true) (hj : 4 * j < s.cfg.dbufSize) (w : Word) :
    hostWrite (0x10000 + 4 * j) 32 w s = respond .accepted (setOverrun s) := by
  simp [hostWrite, targetOf_dbufOffset hj, hb]

/-! ### The bytes of a written DBUF word -/

theorem wordBytes_getElem (w : Word) (k : Nat) (hk : k < (wordBytes w).length) : (wordBytes w)[k] = byteOf k w := by
  match k, hk with
  | 0, _ | 1, _ | 2, _ | 3, _ => rfl

theorem dbufByte_writeDbufWord_inside (j k : Nat) (hk : k < 4) (w : Word) (s : State) :
    dbufByte (writeDbufWord j w s) (4 * j + k) = byteOf k w := by
  have listed : k < (wordBytes w).length := hk
  rw [writeDbufWord, dbufByte_memWrite_inside _ _ _ listed, wordBytes_getElem]

theorem dbufByte_writeDbufWord_outside (j a : Nat) (ha : a < 4 * j ∨ 4 * j + 4 ≤ a) (w : Word) (s : State) :
    dbufByte (writeDbufWord j w s) a = dbufByte s a :=
  dbufByte_memWrite_outside _ _ _ ha s

/-! ### The statements about the port -/

/-- Settles O15: the new buffer is the one that the memory write of the word's four bytes leaves. -/
theorem dbufWindowPacksBigEndian : Obligations.DbufWindowPacksBigEndian := by
  intro s j hb hj
  refine ⟨hostRead_dbufWord_idle hb hj, fun w => ⟨(writeDbufWord j w s).dbuf, ?write, ?inside, ?outside⟩⟩
  case write => exact hostWrite_dbufWord_idle hb hj w
  case inside => exact fun k hk => dbufByte_writeDbufWord_inside j k hk w s
  case outside => exact fun a ha => dbufByte_writeDbufWord_outside j a ha w s

/-- Settles O11: CTRL and STATUS are the registers that BUSY = 1 does not guard; every other target drops the write. -/
theorem busyWriteIsDropped : Obligations.BusyWriteIsDropped := by
  intro s w hb
  refine ⟨fun r hctrl hstatus => ?register, fun j hj => ?dbuf, ?ctrl, ?status⟩
  case register =>
    have guarded : writableWhileBusy r = false := by
      rw [Bool.eq_false_iff, ne_eq, writableWhileBusy_iff]
      exact not_or.2 ⟨hctrl, hstatus⟩
    exact hostWrite_reg_dropped hb guarded w
  case dbuf => exact hostWrite_dbufWord_busy hb hj w
  case ctrl => exact hostWrite_reg_taken (r := .ctrl) (.inr rfl) w
  case status => exact hostWrite_reg_taken (r := .status) (.inr rfl) w

/-- Settles O14: such an access fails the port's check of size and alignment, which comes before the address map. -/
theorem misalignedAccessIsRefused : Obligations.MisalignedAccessIsRefused := by
  intro off size w s h
  have bad : goodAccess off size = false := by
    rw [Bool.eq_false_iff, ne_eq, goodAccess_iff]
    exact not_and_or.2 h
  exact ⟨hostRead_of_bad bad s, hostWrite_of_bad bad w s⟩

end Sys2Proof.Proofs
end

section
/-! The decoder, outcome by outcome (30_encoding.md R90): a word's row in the table of R89 and the reserved bits of its format
decide; and from these the statement about the spec's examples. -/

namespace Sys2Proof.Proofs

/-! ### The three outcomes of the decoder -/

theorem decode_of_row {w : Word} {fmt : Format} {i : Instr} (row : opcodeRow w = some (fmt, i)) (h : w &&& rsvdMask fmt = 0#32) :
    decode w = .ok i := by
  simp [decode, row, h]

theorem decode_of_reserved_bit {w : Word} {fmt : Format} {i : Instr} (row : opcodeRow w = some (fmt, i))
    (h : w &&& rsvdMask fmt ≠ 0#32) : decode w = .error .reserved := by
  simp [decode, row, h]

theorem decode_of_no_row {w : Word} (h : opcodeRow w = none) : decode w = .error .illegal := by
  simp [decode, h]

/-! ### The examples of R96 -/

theorem encode_exampleWords : ∀ p ∈ Spec.exampleWords, encode p.1 = p.2 := by
  decide

/-- Each printed word has its command's row in the table of R89 and no reserved bit set. -/
theorem exampleWords_row :
    ∀ p ∈ Spec.exampleWords, ∃ row ∈ opcodeRow p.2, row.2 = p.1 ∧ p.2 &&& rsvdMask row.1 = 0#32 := by
  decide

/-- Settles O4: the first two refused words have the rows of ENG_INIT (format N) and MULX (format BC) and one reserved bit set;
the third has an opcode without a row. -/
theorem specExampleWordsDecode : Obligations.SpecExampleWordsDecode := by
  refine ⟨fun p hp => ⟨encode_exampleWords p hp, ?decoded⟩, ?engInit, ?mulx, ?unassigned⟩
  case decoded =>
    obtain ⟨⟨fmt, _⟩, row, rfl, clear⟩ := exampleWords_row p hp
    exact decode_of_row row clear
  case engInit => exact decode_of_reserved_bit (fmt := .n) (i := .engInit) (by decide) (by decide)
  case mulx => exact decode_of_reserved_bit (fmt := .bc) (i := .mulx 0 0) (by decide) (by decide)
  case unassigned => exact decode_of_no_row (by decide)

end Sys2Proof.Proofs
end

section
/-! Field arithmetic over bytes (40_field_arith.md R110 to R114): how an arithmetic command ends, the arithmetic of one
multiplication by x, and from these the statements about MULX and MULXPOW. -/

namespace Sys2Proof.Proofs

open Sys2Proof.Machine Sys2Proof.Laws

/-! ### How an arithmetic command ends -/

/-- R53: the frame of a completed write of RES. -/
theorem keepsAllButRes_complete_writeRes (code : ErrCode) (v : DWord) (s : State) :
    keepsAllButRes s (complete code (writeRes v s)) := by
  simp [keepsAllButRes, keepsControl, keepsVok, keepsHash, keepsFreg, keepsF9, keepsEngine, keepsEngstat, keepsDbuf, dbufByte]

theorem succeeded_complete_writeRes (v : DWord) (s : State) : succeeded s (complete .ok (writeRes v s)) :=
  complete_ok_succeeded (writeRes v s)

/-- A command that finishes with `v` in RES succeeds, and writes RES and STATUS only. -/
theorem completes_of_eq_finish_writeRes {i : Instr} {s : State} {v : DWord} (h : exec i s = finish (writeRes v s)) :
    ∃ t, exec i s = .next t ∧ t.res = v ∧ succeeded s t ∧ keepsAllButRes s t :=
  ⟨complete .ok (writeRes v s), h, rfl, succeeded_complete_writeRes v s, keepsAllButRes_complete_writeRes .ok v s⟩

/-! ### The byte operands of a command word -/

@[simp] theorem byteOperand_toNat (v : Byte) : byteOperand v.toNat = v := by
  simp [byteOperand]

theorem exec_mulx (v c : Byte) (s : State) :
    exec (.mulx v.toNat c.toNat) s = finish (writeRes (zextByte (mulx v c)) s) := by
  have unfolded : exec (.mulx v.toNat c.toNat) s = execMulx v.toNat c.toNat s := rfl
  rw [unfolded, execMulx, byteOperand_toNat, byteOperand_toNat]

theorem exec_mulxpow (v c : Byte) (i : Nat) (s : State) :
    exec (.mulxpow v.toNat c.toNat i) s = finish (writeRes (zextByte (mulxpow v i c)) s) := by
  have unfolded : exec (.mulxpow v.toNat c.toNat i) s = execMulxpow v.toNat c.toNat i s := rfl
  rw [unfolded, execMulxpow, byteOperand_toNat, byteOperand_toNat]

/-! ### Multiplication by x -/

/-- One multiplication by x with reduction constant `c`, in plain arithmetic and at any width: the top bit decides whether the
doubled value is reduced. -/
theorem toNat_shiftReduce {n : Nat} (v c : BitVec (n + 1)) :
    (if v.getLsbD n then (v <<< 1) ^^^ c else v <<< 1).toNat =
      if v.toNat < 2 ^ n then 2 * v.toNat else (2 * v.toNat % 2 ^ (n + 1)) ^^^ c.toNat := by
  have shifted : (v <<< 1).toNat = 2 * v.toNat % 2 ^ (n + 1) := by
    rw [BitVec.toNat_shiftLeft, Nat.shiftLeft_eq, pow_one, Nat.mul_comm]
  have top : v.getLsbD n = decide (2 ^ n ≤ v.toNat) := by
    simpa [BitVec.msb_eq_getLsbD_last] using BitVec.msb_eq_decide v
  rw [top]
  by_cases small : v.toNat < 2 ^ n
  · have fits : 2 * v.toNat < 2 ^ (n + 1) := by omega
    simp [small, Nat.not_le.2 small, shifted, Nat.mod_eq_of_lt fits]
  · simp [small, Nat.not_lt.1 small, shifted]

/-- R110. -/
theorem toNat_mulx (v c : Byte) :
    (mulx v c).toNat = if v.toNat < 128 then 2 * v.toNat else (2 * v.toNat % 256) ^^^ c.toNat :=
  toNat_shiftReduce v c

/-- R113: the source's loop is `mulx` iterated. -/
theorem mulxpow_eq_iterate (v : Byte) (i : Nat) (c : Byte) : mulxpow v i c = (fun x => mulx x c)^[i] v := by
  induction i with
  | zero => rfl
  | succ i ih => rw [mulxpow_succ, ih, Function.iterate_succ_apply']

theorem zextByte_eq_ofNat (b : Byte) : zextByte b = BitVec.ofNat 64 b.toNat := by
  rw [zextByte, BitVec.ofNat_toNat]

/-! ### The statements about MULX and MULXPOW -/

/-- Settles O28: MULXPOW finishes with the source's loop in RES, and that loop is the iterate. -/
theorem mulxpowResult : Obligations.MulxpowResult := by
  intro v c i s
  rw [← mulxpow_eq_iterate]
  exact completes_of_eq_finish_writeRes (exec_mulxpow v c i.toNat s)

/-- Settles O27: MULX finishes with `mulx` in RES, whose value in plain arithmetic is R110's. -/
theorem mulxResult : Obligations.MulxResult := by
  intro v c s
  rw [← toNat_mulx, ← zextByte_eq_ofNat]
  exact completes_of_eq_finish_writeRes (exec_mulx v c s)

end Sys2Proof.Proofs
end

section
/-! The S-boxes, the diffusion step and the FSM clock (41_sbox_fsm.md R135 to R147). The diffusion matrix is circulant, so its
square mixes opposite bytes only, and its fourth power is the identity for every reduction constant; the byte S-boxes are
inverted by a search in their tables. -/

namespace Sys2Proof.Proofs

open Sys2Proof.Machine Sys2Proof.Laws

/-! ### A word as its four bytes (R8) -/

@[simp] theorem byteOf_zero_be32 (b0 b1 b2 b3 : Byte) : byteOf 0 (be32 b0 b1 b2 b3) = b0 := by
  rw [byteOf, be32, BitVec.extractLsb'_append_eq_of_le (by decide), BitVec.extractLsb'_append_eq_of_le (by decide)]
  exact BitVec.extractLsb'_append_eq_left

@[simp] theorem byteOf_one_be32 (b0 b1 b2 b3 : Byte) : byteOf 1 (be32 b0 b1 b2 b3) = b1 := by
  rw [byteOf, be32, BitVec.extractLsb'_append_eq_of_le (by decide), BitVec.extractLsb'_append_eq_of_le (by decide)]
  exact BitVec.extractLsb'_append_eq_right

@[simp] theorem byteOf_two_be32 (b0 b1 b2 b3 : Byte) : byteOf 2 (be32 b0 b1 b2 b3) = b2 := by
  rw [byteOf, be32, BitVec.extractLsb'_append_eq_of_le (by decide)]
  exact BitVec.extractLsb'_append_eq_right

@[simp] theorem byteOf_three_be32 (b0 b1 b2 b3 : Byte) : byteOf 3 (be32 b0 b1 b2 b3) = b3 :=
  BitVec.extractLsb'_append_eq_right

@[simp] theorem be32_byteOf (w : Word) : be32 (byteOf 0 w) (byteOf 1 w) (byteOf 2 w) (byteOf 3 w) = w := by
  simp only [byteOf, be32]
  rw [BitVec.extractLsb'_append_extractLsb'_eq_extractLsb' (by rfl),
    BitVec.extractLsb'_append_extractLsb'_eq_extractLsb' (by rfl),
    BitVec.extractLsb'_append_extractLsb'_eq_extractLsb' (by rfl)]
  exact BitVec.extractLsb'_eq_self

/-- A word is the same as its four bytes, the most significant first. -/
def wordEquivBytes : Word ≃ Byte × Byte × Byte × Byte where
  toFun w := (byteOf 0 w, byteOf 1 w, byteOf 2 w, byteOf 3 w)
  invFun b := be32 b.1 b.2.1 b.2.2.1 b.2.2.2
  left_inv := be32_byteOf
  right_inv := fun ⟨b0, b1, b2, b3⟩ => by simp

/-! ### Multiplication by x is additive (R127 law 1) -/

theorem mulx_eq_xor (v c : Byte) : mulx v c = (v <<< 1) ^^^ (if v.getLsbD 7 then c else 0#8) := by
  cases h : v.getLsbD 7 <;> simp only [mulx, h, Bool.false_eq_true, ↓reduceIte, BitVec.xor_zero]

theorem mulx_xor (a b c : Byte) : mulx (a ^^^ b) c = mulx a c ^^^ mulx b c := by
  have reduction : (if (a.getLsbD 7 ^^ b.getLsbD 7) then c else 0#8) =
      (if a.getLsbD 7 then c else 0#8) ^^^ (if b.getLsbD 7 then c else 0#8) := by
    cases a.getLsbD 7 <;> cases b.getLsbD 7 <;> simp
  rw [mulx_eq_xor, mulx_eq_xor, mulx_eq_xor, BitVec.shiftLeft_xor_distrib, BitVec.getLsbD_xor, reduction]
  ac_rfl

/-! ### The diffusion step -/

/-- R140: the first row of the diffusion matrix, as the byte, the sum of all four and one multiplication by x. The other rows
are this one on the rotated bytes. -/
def mixRow (c b0 b1 b2 b3 : Byte) : Byte := b0 ^^^ (b0 ^^^ b1 ^^^ b2 ^^^ b3) ^^^ mulx (b0 ^^^ b3) c

/-- The diffusion step before its four bytes are packed. -/
def mixBytes (c : Byte) : Byte × Byte × Byte × Byte → Byte × Byte × Byte × Byte := fun (b0, b1, b2, b3) =>
  (mixRow c b0 b1 b2 b3, mixRow c b1 b2 b3 b0, mixRow c b2 b3 b0 b1, mixRow c b3 b0 b1 b2)

theorem mixColumn_eq (b : Byte × Byte × Byte × Byte) (c : Byte) :
    mixColumn b.1 b.2.1 b.2.2.1 b.2.2.2 c = wordEquivBytes.symm (mixBytes c b) := by
  obtain ⟨b0, b1, b2, b3⟩ := b
  change _ = be32 (mixRow c b0 b1 b2 b3) (mixRow c b1 b2 b3 b0) (mixRow c b2 b3 b0 b1) (mixRow c b3 b0 b1 b2)
  simp only [mixColumn, mixRow, mulx_xor, BitVec.xor_assoc, xor_cancel_left]
  congr 1 <;> ac_rfl

theorem byte_xor_left_comm (a b c : Byte) : a ^^^ (b ^^^ c) = b ^^^ (a ^^^ c) := by
  ac_rfl

/-- One row of the square of the diffusion matrix: the byte and its opposite one, their difference twice multiplied by x. -/
def mixOpposite (c a b : Byte) : Byte := a ^^^ mulx (mulx (a ^^^ b) c) c

/-- `mulx` is additive, and every term in a neighbouring byte comes twice. -/
theorem mixRow_mixRow (c b0 b1 b2 b3 : Byte) :
    mixRow c (mixRow c b0 b1 b2 b3) (mixRow c b1 b2 b3 b0) (mixRow c b2 b3 b0 b1) (mixRow c b3 b0 b1 b2) =
      mixOpposite c b0 b2 := by
  simp only [mixRow, mixOpposite, mulx_xor, BitVec.xor_assoc, BitVec.xor_comm, byte_xor_left_comm, xor_cancel_left,
    BitVec.xor_self, BitVec.xor_zero, BitVec.zero_xor]

theorem mixBytes_mixBytes (c b0 b1 b2 b3 : Byte) :
    mixBytes c (mixBytes c (b0, b1, b2, b3)) =
      (mixOpposite c b0 b2, mixOpposite c b1 b3, mixOpposite c b2 b0, mixOpposite c b3 b1) := by
  simp only [mixBytes, mixRow_mixRow]

/-- Adding the same multiple of the difference to both bytes keeps the difference. -/
theorem mixOpposite_xor_mixOpposite (c a b : Byte) : mixOpposite c a b ^^^ mixOpposite c b a = a ^^^ b := by
  rw [mixOpposite, mixOpposite, BitVec.xor_comm b a, BitVec.xor_comm b, BitVec.xor_assoc, xor_cancel_left]

/-- The difference being kept, mixing in its multiple twice undoes it. -/
theorem mixOpposite_mixOpposite (c a b : Byte) : mixOpposite c (mixOpposite c a b) (mixOpposite c b a) = a := by
  rw [mixOpposite, mixOpposite_xor_mixOpposite, mixOpposite, xor_cancel_right]

/-- The fourth power of the diffusion matrix is the identity. -/
theorem mixBytes_comp_mixBytes_involutive (c : Byte) : Function.Involutive (mixBytes c ∘ mixBytes c) := by
  rintro ⟨b0, b1, b2, b3⟩
  simp only [Function.comp_apply, mixBytes_mixBytes, mixOpposite_mixOpposite]

theorem mixBytes_bijective (c : Byte) : Function.Bijective (mixBytes c) :=
  have square := (mixBytes_comp_mixBytes_involutive c).bijective
  ⟨square.injective.of_comp, square.surjective.of_comp⟩

/-- The diffusion step is a bijection for every reduction constant. -/
theorem mixColumn_bijective (c : Byte) :
    Function.Bijective fun b : Byte × Byte × Byte × Byte => mixColumn b.1 b.2.1 b.2.2.1 b.2.2.2 c := by
  simp only [mixColumn_eq]
  exact wordEquivBytes.symm.bijective.comp (mixBytes_bijective c)

/-! ### The substitutions -/

/-- Where a table of 16 by 16 bytes holds `b`, as row and column in one byte. -/
def tableIndex (t : List (List Byte)) (b : Byte) : Byte :=
  BitVec.ofNat 8 (t.flatten.findIdx fun entry => entry.toNat == b.toNat)

theorem tableIndex_sboxR : Function.LeftInverse (tableIndex srTable) sboxR := by
  unfold Function.LeftInverse
  decide +kernel

theorem tableIndex_sboxQ : Function.LeftInverse (tableIndex sqTable) sboxQ := by
  unfold Function.LeftInverse
  decide +kernel

theorem sboxR_bijective : Function.Bijective sboxR :=
  Finite.injective_iff_bijective.1 tableIndex_sboxR.injective

theorem sboxQ_bijective : Function.Bijective sboxQ :=
  Finite.injective_iff_bijective.1 tableIndex_sboxQ.injective

/-- R141: a byte bijection on each byte, then the diffusion step, is a bijection on words. -/
theorem substitutedWord_bijective {f : Byte → Byte} (hf : Function.Bijective f) (c : Byte) :
    Function.Bijective fun w : Word => mixColumn (f (byteOf 0 w)) (f (byteOf 1 w)) (f (byteOf 2 w)) (f (byteOf 3 w)) c := by
  have onBytes := hf.prodMap (hf.prodMap (hf.prodMap hf))
  have factors : (fun w : Word =>
      mixColumn (f (byteOf 0 w)) (f (byteOf 1 w)) (f (byteOf 2 w)) (f (byteOf 3 w)) c) =
        (fun b : Byte × Byte × Byte × Byte => mixColumn b.1 b.2.1 b.2.2.1 b.2.2.2 c) ∘
          Prod.map f (Prod.map f (Prod.map f f)) ∘ wordEquivBytes := by
    funext w
    rfl
  rw [factors]
  exact (mixColumn_bijective c).comp (onBytes.comp wordEquivBytes.bijective)

/-- Settles O36: S1 and S2 are a byte S-box on each byte of the word, then the diffusion step. -/
theorem substitutionsAreBijective : Obligations.SubstitutionsAreBijective :=
  ⟨substitutedWord_bijective sboxR_bijective 0x1B, substitutedWord_bijective sboxQ_bijective 0x69, sboxR_bijective,
    sboxQ_bijective, fun c _ => mixColumn_bijective c⟩

/-! ### The FSM clock -/

/-- The effect of an engine clock on the state: a new FREG and a new engine. -/
def clocked (f : Word) (e : Engine) (s : State) : State := { s with freg := f, eng := e }

theorem exec_fsmClk (s : State) : exec .fsmClk s = finish (clocked (fsmOutput s.eng) (fsmClock s.eng) s) := rfl

/-- R53: the frame of an engine clock, everything but FREG, the engine and the completion's STATUS bits. -/
def keepsAllButClock (s t : State) : Prop :=
  keepsControl s t ∧ keepsVok s t ∧ keepsRes s t ∧ keepsHash s t ∧ keepsF9 s t ∧ keepsEngstat s t ∧ keepsDbuf s t

theorem keepsAllButClock_complete_clocked (code : ErrCode) (f : Word) (e : Engine) (s : State) :
    keepsAllButClock s (complete code (clocked f e s)) := by
  simp [keepsAllButClock, clocked, keepsControl, keepsVok, keepsRes, keepsHash, keepsF9, keepsEngstat, keepsDbuf, dbufByte]

/-- The sum modulo 2^32 of R145 is word addition. -/
theorem ofNat_toNat_add (a b : Word) : BitVec.ofNat 32 ((a.toNat + b.toNat) % 2 ^ 32) = a + b := by
  rw [← BitVec.toNat_add, BitVec.ofNat_toNat, BitVec.setWidth_eq]

/-- Settles O38: the completed clock holds `fsmOutput` and `fsmNext` of the old engine, whose sums are those of R145. -/
theorem fsmClockResult : Obligations.FsmClockResult := by
  intro s
  rw [ofNat_toNat_add, ofNat_toNat_add]
  have success := complete_ok_succeeded (clocked (fsmOutput s.eng) (fsmClock s.eng) s)
  have frame := keepsAllButClock_complete_clocked .ok (fsmOutput s.eng) (fsmClock s.eng) s
  exact ⟨_, exec_fsmClk s, rfl, rfl, rfl, rfl, rfl, success, frame⟩

end Sys2Proof.Proofs
end

section
/-! The LFSR clocks, the engine setups and the keystream function (42_lfsr_engine.md R155 to R172): how a command that writes
the engine ends, the feedback and the initialisation round as the spec writes them, initialisation by hand as an iterated round,
and the keystream of a request split in two. -/

namespace Sys2Proof.Proofs

open Sys2Proof.Machine Sys2Proof.Laws

/-! ### How a command that writes the engine ends -/

/-- The effect of the LFSR clocks and of the engine setups: a new engine, and ENGSTAT's STATE and PRIMED. -/
def withEngine (e : Engine) (lifecycle : EngState) (primed : Bool) (s : State) : State :=
  { s with eng := e, engstat := { s.engstat with state := lifecycle, primed := primed } }

/-- R53: the frame of a completed write of the engine. -/
theorem keepsAllButEngine_complete_withEngine (code : ErrCode) (e : Engine) (lifecycle : EngState) (primed : Bool) (s : State) :
    keepsAllButEngine s (complete code (withEngine e lifecycle primed s)) := by
  simp [keepsAllButEngine, withEngine, keepsControl, keepsVok, keepsRes, keepsHash, keepsFreg, keepsF9, keepsDbuf, dbufByte]

/-- A command that finishes with a new engine, STATE and PRIMED succeeds, and writes those and STATUS only. -/
theorem completes_of_eq_finish_withEngine {i : Instr} {s : State} {e : Engine} {lifecycle : EngState} {primed : Bool}
    (h : exec i s = finish (withEngine e lifecycle primed s)) :
    ∃ t, exec i s = .next t ∧ t.eng = e ∧ t.engstat = { s.engstat with state := lifecycle, primed := primed } ∧
      succeeded s t ∧ keepsAllButEngine s t :=
  ⟨complete .ok (withEngine e lifecycle primed s), h, rfl, rfl, complete_ok_succeeded (withEngine e lifecycle primed s),
    keepsAllButEngine_complete_withEngine .ok e lifecycle primed s⟩

theorem exec_lfsrClkKs (s : State) :
    exec .lfsrClkKs s = finish (withEngine (lfsrClockKs s.eng) s.engstat.state s.engstat.primed s) := rfl

theorem exec_lfsrClkInit (s : State) :
    exec .lfsrClkInit s = finish (withEngine (lfsrClockInit s.freg s.eng) s.engstat.state s.engstat.primed s) := rfl

theorem exec_engLoad (s : State) :
    exec .engLoad s = finish (withEngine (loadEngine s.opr.key s.opr.iv) .initializing false s) := rfl

theorem exec_engInit (s : State) :
    exec .engInit s = finish (withEngine (initEngine s.opr.key s.opr.iv) .streaming false s) := rfl

/-! ### The feedback and the shift as the spec writes them -/

/-- A left shift clears the bits that R156's mask clears. In `Spec.feedback` this mask elaborates to a cast. -/
theorem shiftLeft_eight_and_mask (w : Word) : (w <<< 8) &&& ((0xFFFFFF00 : Nat) : Word) = w <<< 8 := by
  have mask : ((0xFFFFFF00 : Nat) : Word) = BitVec.allOnes 32 <<< 8 := by decide
  rw [mask, ← BitVec.shiftLeft_and_distrib, BitVec.and_allOnes]

/-- A right shift clears the bits that R156's mask clears. -/
theorem ushiftRight_eight_and_mask (w : Word) : (w >>> 8) &&& (0x00FFFFFF : Word) = w >>> 8 := by
  have mask : (0x00FFFFFF : Word) = BitVec.allOnes 32 >>> 8 := by decide
  rw [mask, ← BitVec.ushiftRight_and_distrib, BitVec.and_allOnes]

/-- R8: the most significant byte. -/
theorem byteOf_zero_eq_ofNat (w : Word) : byteOf 0 w = BitVec.ofNat 8 (w.toNat / 2 ^ 24) := by
  rw [byteOf, BitVec.extractLsb', Nat.shiftRight_eq_div_pow]

/-- R8: the least significant byte. -/
theorem byteOf_three_eq_ofNat (w : Word) : byteOf 3 w = BitVec.ofNat 8 (w.toNat % 256) := by
  apply BitVec.eq_of_toNat_eq
  simp [byteOf]

/-- R156. -/
theorem lfsrFeedback_eq_feedback (l : Lfsr) : lfsrFeedback l = Spec.feedback l := by
  rw [lfsrFeedback, Spec.feedback, shiftLeft_eight_and_mask, ushiftRight_eight_and_mask, byteOf_zero_eq_ofNat,
    byteOf_three_eq_ofNat]

/-- R155, R157. -/
theorem lfsrShift_eq_shifted (v : Word) (l : Lfsr) : lfsrShift v l = Spec.shifted l v := rfl

theorem lfsrClockKs_lfsr (e : Engine) : (lfsrClockKs e).lfsr = Spec.shifted e.lfsr (Spec.feedback e.lfsr) := by
  rw [lfsrClockKs, lfsrFeedback_eq_feedback, lfsrShift_eq_shifted]

theorem lfsrClockInit_lfsr (f : Word) (e : Engine) :
    (lfsrClockInit f e).lfsr = Spec.shifted e.lfsr (Spec.feedback e.lfsr ^^^ f) := by
  rw [lfsrClockInit, lfsrFeedback_eq_feedback, lfsrShift_eq_shifted]

/-! ### Loading and the initialisation rounds -/

/-- R9: the loading table's XOR with all ones is the complement. -/
theorem xor_ones (w : Word) : w ^^^ (0xFFFFFFFF : Word) = ~~~w :=
  BitVec.xor_allOnes

/-- R162: the FSM clock keeps the LFSR, so the round's feedback and F are those of the old engine. -/
theorem initRound_eq_round : initRound = Spec.round := by
  funext e
  have lfsr : (initRound e).lfsr = (Spec.round e).lfsr := lfsrClockInit_lfsr (fsmOutput e) (fsmClock e)
  have fsm : (initRound e).fsm = (Spec.round e).fsm := rfl
  exact congrArg₂ Engine.mk lfsr fsm

/-- R162. -/
theorem initEngine_eq_initialised (k iv : Quad) : initEngine k iv = Spec.initialised k iv := by
  rw [initEngine, initRounds_eq_iterate, initRound_eq_round, Spec.initialised, loadEngine]

/-! ### Initialisation by hand (R164) -/

/-- The state after the host's FSM_CLK and LFSR_CLK_INIT. -/
def handRound (s : State) : State :=
  let f := complete .ok (clocked (fsmOutput s.eng) (fsmClock s.eng) s)
  complete .ok (withEngine (lfsrClockInit f.freg f.eng) f.engstat.state f.engstat.primed f)

theorem execAll_handRound (is : List Instr) (s : State) :
    execAll ([.fsmClk, .lfsrClkInit] ++ is) s = execAll is (handRound s) := rfl

/-- The repetitions all succeed. -/
theorem execAll_replicate_handRound (n : Nat) (s : State) :
    execAll (List.replicate n [Instr.fsmClk, .lfsrClkInit]).flatten s = .next (handRound^[n] s) := by
  induction n generalizing s with
  | zero => rfl
  | succ n ih => rw [List.replicate_succ, List.flatten_cons, execAll_handRound, ih, Function.iterate_succ_apply]

/-- FREG carries the FSM's output from one command to the other, so that the two make one initialisation round. -/
theorem handRound_eng (s : State) : (handRound s).eng = initRound s.eng := rfl

theorem handRound_freg (s : State) : (handRound s).freg = fsmOutput s.eng := rfl

theorem busy_handRound (s : State) : busy (handRound s) = false := rfl

theorem iterate_handRound_eng (n : Nat) (s : State) : (handRound^[n] s).eng = initRound^[n] s.eng :=
  Function.Semiconj.iterate_right (f := State.eng) handRound_eng n s

/-- R28: STATE = 2 and PRIMED = 0 in a word written to ENGSTAT, F9VALID and the unimplemented bits being free. -/
theorem writeEngstat_streaming {w : Word} (h : w &&& 7 = 2) (s : State) :
    (writeEngstat w s).engstat.state = .streaming ∧ (writeEngstat w s).engstat.primed = false := by
  have field : BitVec.extractLsb' 0 2 w = 2 := by
    have low := congrArg (BitVec.extractLsb' 0 2) h
    rwa [BitVec.extractLsb'_and, show BitVec.extractLsb' 0 2 (7 : Word) = BitVec.allOnes 2 by decide,
      BitVec.and_allOnes] at low
  have bit : w.getLsbD 2 = false := by
    have low := congrArg (BitVec.getLsbD · 2) h
    rwa [BitVec.getLsbD_and, show (7 : Word).getLsbD 2 = true by decide, Bool.and_true] at low
  rw [writeEngstat_engstat, field, bit]
  exact ⟨rfl, rfl⟩

/-! ### A keystream request split in two (R169) -/

/-- R168: a primed engine runs no priming clock. -/
theorem primeEngine_true (e : Engine) : primeEngine true e = e := rfl

theorem ksWords_add (a b : Nat) (e : Engine) : ksWords (a + b) e = ksWords a e ++ ksWords b (ksAdvance a e) := by
  induction a generalizing e with
  | zero => rw [Nat.zero_add]; rfl
  | succ a ih => rw [Nat.succ_add, ksWords, ih]; rfl

theorem ksAdvance_add (a b : Nat) (e : Engine) : ksAdvance (a + b) e = ksAdvance b (ksAdvance a e) := by
  rw [ksAdvance_eq_iterate, ksAdvance_eq_iterate, ksAdvance_eq_iterate, Nat.add_comm, Function.iterate_add_apply]

/-- R169: the first request of at least one word runs the priming clock if there is one, and the second does not. -/
theorem keystreamWords_add (a b : Nat) (e : Engine) (p : Bool) :
    let x := keystreamWords a e p
    let y := keystreamWords b x.eng x.primed
    keystreamWords (a + b) e p = ⟨x.words ++ y.words, y.eng, y.primed⟩ := by
  rcases Nat.eq_zero_or_pos a with rfl | ha
  · simp
  rcases Nat.eq_zero_or_pos b with rfl | hb
  · simp
  have sum : a + b ≠ 0 := by omega
  simp only [keystreamWords_pos ha.ne', keystreamWords_pos hb.ne', keystreamWords_pos sum, primeEngine_true, ksWords_add,
    ksAdvance_add]

/-! ### The state check (R172) -/

theorem streaming_eq_false {s : State} (h : s.engstat.state ≠ .streaming) : streaming s = false :=
  decide_eq_false h

theorem exec_ksWord_of_not_streaming {s : State} (h : streaming s = false) : exec .ksWord s = raiseError .state s := by
  simp [exec, execKsWord, h]

theorem exec_ksGen_of_not_streaming (n : Nat) {s : State} (h : streaming s = false) :
    exec (.ksGen n) s = raiseError .state s := by
  simp [exec, execKsGen, h]

/-- R235: F8 checks LEN_HI before it checks the engine. -/
theorem exec_f8_of_not_streaming {s : State} (h : streaming s = false) :
    exec .f8 s = raiseError (if hiHalf s.opr.len = 0 then .state else .operand) s := by
  have unfolded : exec .f8 s = execF8 s := rfl
  rw [unfolded, execF8]
  by_cases length : hiHalf s.opr.len = 0
  · rw [if_neg (not_not.2 length), h, if_pos length]
    rfl
  · rw [if_pos length, if_neg length]

/-! ### The statements about the engine and its keystream -/

/-- Settles O39: both clocks finish with the shift of R157, their feedback being R156's. -/
theorem lfsrClockResults : Obligations.LfsrClockResults := by
  intro s
  obtain ⟨t, run, eng, engstat, success, frame⟩ := completes_of_eq_finish_withEngine (exec_lfsrClkKs s)
  obtain ⟨t', run', eng', engstat', success', frame'⟩ := completes_of_eq_finish_withEngine (exec_lfsrClkInit s)
  refine ⟨⟨t, run, ?_, ?_, success, frame, engstat⟩, t', run', ?_, ?_, success', frame', engstat'⟩
  · rw [eng, lfsrClockKs_lfsr]
  · rw [eng, lfsrClockKs_fsm]
  · rw [eng', lfsrClockInit_lfsr]
  · rw [eng', lfsrClockInit_fsm]

/-- Settles O40: ENG_LOAD finishes with the loaded engine, in which the table's XOR with all ones is a complement. -/
theorem engineLoadResult : Obligations.EngineLoadResult := by
  intro s
  obtain ⟨t, run, eng, engstat, success, frame⟩ := completes_of_eq_finish_withEngine (exec_engLoad s)
  refine ⟨t, run, ?cells, ?fsm, ?state, ?primed, success, frame⟩
  case cells => simp only [xor_ones, eng, loadEngine, loadState]
  case fsm => rw [eng, loadEngine]
  case state => rw [engstat]
  case primed => rw [engstat]

/-- Settles O41: ENG_INIT finishes with `initEngine` of KEY and IV, whose rounds are the spec's. -/
theorem engineInitResult : Obligations.EngineInitResult := by
  intro s
  obtain ⟨t, run, eng, engstat, success, frame⟩ := completes_of_eq_finish_withEngine (exec_engInit s)
  rw [initEngine_eq_initialised] at eng
  refine ⟨t, run, eng, ?state, ?primed, success, frame⟩
  case state => rw [engstat]
  case primed => rw [engstat]

/-- Settles O42: by hand the 32 rounds of R162 run on the engine that ENG_LOAD leaves, and the idle unit takes the
write of ENGSTAT. -/
theorem initialisationByHand : Obligations.InitialisationByHand := by
  intro s w hw
  obtain ⟨l, load, loaded, -⟩ := completes_of_eq_finish_withEngine (exec_engLoad s)
  obtain ⟨u, init, initialised, engstat, -⟩ := completes_of_eq_finish_withEngine (exec_engInit s)
  have last : handRound^[32] l = handRound (handRound^[31] l) := Function.iterate_succ_apply' handRound 31 l
  have idle : busy (handRound^[32] l) = false := by rw [last, busy_handRound]
  have written : hostWrite 0x010 32 w (handRound^[32] l) = respond .accepted (writeEngstat w (handRound^[32] l)) :=
    hostWrite_reg_taken (r := .engstat) (.inl idle) w
  obtain ⟨streaming, unprimed⟩ := writeEngstat_streaming hw (handRound^[32] l)
  refine ⟨l, handRound^[32] l, u, load, execAll_replicate_handRound 32 l, init, ?eng, ?state, ?primed, ?freg⟩ <;>
    rw [written]
  case eng =>
    rw [respond_eng, writeEngstat_eng, iterate_handRound_eng, loaded, initialised, initEngine, initRounds_eq_iterate]
  case state => rw [respond_engstat, streaming, engstat]
  case primed => rw [respond_engstat, unprimed, engstat]
  case freg =>
    rw [respond_freg, writeEngstat_freg, last, handRound_freg, iterate_handRound_eng, initRound_eq_round]

/-- Settles O45: both runs, words and engine, continue where the first request left them, with no second priming clock. -/
theorem keystreamContinues : Obligations.KeystreamContinues := by
  intro a b e p x y z
  have split : z = ⟨x.words ++ y.words, y.eng, y.primed⟩ := keystreamWords_add a b e p
  rw [split]
  exact ⟨rfl, rfl, rfl⟩

/-- Settles O47: all three commands fail the state check, F8 unless its check of LEN_HI comes first. -/
theorem keystreamNeedsStream : Obligations.KeystreamNeedsStream := by
  intro s n h
  have idle := streaming_eq_false h
  have code : (if hiHalf s.opr.len = 0 then ErrCode.state else .operand) ≠ .ok := by split <;> decide
  rw [exec_ksWord_of_not_streaming idle, exec_ksGen_of_not_streaming _ idle, exec_f8_of_not_streaming idle]
  exact ⟨raiseError_eq (by decide) s, raiseError_eq (by decide) s, raiseError_eq code s⟩

end Sys2Proof.Proofs
end

section
/-! UEA2 (43_f8.md R186 to R192): the key and IV of F8_SETUP in the spec's arithmetic, what a successful F8 leaves of the state,
the bits that the datapath masks, and from these the statements about F8_SETUP and about F8 beyond the bit length. -/

namespace Sys2Proof.Proofs

open Sys2Proof.Machine Sys2Proof.Laws

/-! ### The key and IV of F8_SETUP -/

/-- R186: the packing of BEARER, DIRECTION and 26 zero bits is the sum of the shifted fields, which do not overlap. -/
theorem f8BearerWord_eq_ofNat (s : State) :
    f8BearerWord s = BitVec.ofNat 32 (s.opr.bearer.toNat * 2 ^ 27 + s.opr.direction.toNat * 2 ^ 26) := by
  have bearer : s.opr.bearer.toNat < 2 ^ 5 := s.opr.bearer.isLt
  have direction : s.opr.direction.toNat < 2 ^ 1 := s.opr.direction.isLt
  apply BitVec.eq_of_toNat_eq
  rw [f8BearerWord, BitVec.toNat_append, BitVec.toNat_append, ← Nat.shiftLeft_add_eq_or_of_lt direction,
    BitVec.toNat_ofNat, BitVec.toNat_ofNat, Nat.zero_mod, Nat.or_zero, Nat.shiftLeft_eq, Nat.shiftLeft_eq]
  omega

theorem exec_f8Setup (s : State) :
    exec .f8Setup s = finish (withEngine (initEngine (packedKey s) (f8Iv s)) .streaming false s) := rfl

/-! ### The length of F8 (R36, R188) -/

/-- R36: with LEN_HI = 0, LEN_LO is the whole of LEN. -/
theorem f8Length_of_hiHalf_zero {s : State} (h : hiHalf s.opr.len = 0) : f8Length s = s.opr.len.toNat := by
  have high : (s.opr.len.toNat / 2 ^ 32) % 2 ^ 32 = 0 := by
    have value := congrArg BitVec.toNat h
    rwa [hiHalf, BitVec.extractLsb'_toNat, Nat.shiftRight_eq_div_pow] at value
  have bound : s.opr.len.toNat < 2 ^ 64 := s.opr.len.isLt
  rw [f8Length, loHalf, BitVec.extractLsb'_toNat, Nat.shiftRight_zero]
  omega

/-! ### What a successful F8 does -/

/-- R191: the bytes that F8 writes. -/
def f8Written (s : State) : List Byte :=
  f8Output (f8Input s) (keystreamOf (wordCount (f8Length s)) s) (f8Length s)

/-- R191: the effect of F8, before its completion. -/
def f8Effect (s : State) : State := memWrite (dstOffset s) (f8Written s) (advanceKeystream (wordCount (f8Length s)) s)

/-- All that an F8 which ends without an error can be: its three checks passed, and it completed its effect. -/
theorem exec_f8_ok {s t : State} (run : exec .f8 s = .next t) (ok : t.status.errcode = .ok) :
    hiHalf s.opr.len = 0 ∧ streaming s = true ∧ inRange s (srcOffset s) (byteCount (f8Length s)) = true ∧
      inRange s (dstOffset s) (4 * wordCount (f8Length s)) = true ∧ complete .ok (f8Effect s) = t := by
  have raised {code : ErrCode} (h : raiseError code s = .next t) : code = .ok := by
    cases h
    exact ok
  have unfolded : exec .f8 s = execF8 s := rfl
  rw [unfolded, execF8] at run
  split at run
  next => cases raised run
  next length =>
    split at run
    next => cases raised run
    next stream =>
      split at run
      next => cases raised run
      next range =>
        simp only [Bool.not_eq_true', Bool.not_eq_false, Bool.and_eq_true] at stream range
        obtain ⟨source, destination⟩ := range
        exact ⟨not_not.1 length, stream, source, destination, (finish_eq_next _ _).1 run⟩

/-- R191: byte `i` of the destination range after F8. -/
theorem dbufByte_f8Effect (s : State) {i : Nat} (hi : i < 4 * wordCount (f8Length s)) :
    dbufByte (f8Effect s) (dstOffset s + i) =
      f8Byte (f8Input s) i (keystreamOf (wordCount (f8Length s)) s) (f8Length s) := by
  have listed : i < (f8Written s).length := by rwa [f8Written, f8Output_length]
  rw [f8Effect, dbufByte_memWrite_inside _ _ _ listed]
  simp only [f8Written, f8Output, List.getElem_map, List.getElem_range]

/-! ### The masked bits (R190, R192) -/

/-- R125: the bits below the top `n` are clear. -/
theorem mask8bit_getLsbD_below {n b : Nat} (h : b < 8 - n) : (mask8bit n).getLsbD b = false := by
  simp [mask8bit, h]

/-- R190: a bit at or beyond `len` lies either in a padding byte, which is 0, or in the last byte of data, below its mask. -/
theorem f8Byte_getLsbD_beyond (data : List Byte) (ks : List Word) {len j : Nat} (h : len ≤ j) :
    (f8Byte data (j / 8) ks len).getLsbD (7 - j % 8) = false := by
  have count : byteCount len = (len + 7) / 8 := rfl
  rw [f8Byte]
  split
  next => exact BitVec.getLsbD_zero
  next inside =>
    have last : j / 8 + 1 = byteCount len ∧ len % 8 ≠ 0 := by omega
    have below : 7 - j % 8 < 8 - len % 8 := by omega
    rw [if_pos last, BitVec.getLsbD_and, mask8bit_getLsbD_below below, Bool.and_false]

/-! ### The statements about F8_SETUP and F8 -/

/-- Settles O48: F8_SETUP finishes with `initEngine` of the packed key and of the IV whose BEARER word is R186's sum. -/
theorem cipherSetupResult : Obligations.CipherSetupResult := by
  intro s
  obtain ⟨t, run, eng, engstat, success, frame⟩ := completes_of_eq_finish_withEngine (exec_f8Setup s)
  refine ⟨t, run, ?eng, ?state, ?primed, success, frame⟩
  case eng =>
    rw [eng, initEngine_eq_initialised, f8Iv, f8BearerWord_eq_ofNat]
    rfl
  case state => rw [engstat]
  case primed => rw [engstat]

/-- Settles O50: the bit's byte is in the destination range, so it is the byte that the datapath masked. -/
theorem cipherMasksBeyondLength : Obligations.CipherMasksBeyondLength := by
  intro s t j run ok beyond written
  obtain ⟨high, -, -, -, rfl⟩ := exec_f8_ok run ok
  rw [← f8Length_of_hiHalf_zero high] at beyond written
  have count : wordCount (f8Length s) = (f8Length s + 31) / 32 := rfl
  have inside : j / 8 < 4 * wordCount (f8Length s) := by omega
  rw [messageBit, dbufByte_complete, dbufByte_f8Effect s inside]
  exact f8Byte_getLsbD_beyond _ _ beyond

end Sys2Proof.Proofs
end

section
/-! UIA2 (44_f9.md R201 to R211): the keystream words as outputs of an iterated clock, the IV of F9_SETUP, the bits of the
message blocks, what F9_HASH and F9_VERIFY complete with, and from these the statements about F9_SETUP, the message blocks and
F9_VERIFY. -/

namespace Sys2Proof.Proofs

open Sys2Proof.Machine Sys2Proof.Laws

/-! ### The keystream clock, iterated -/

/-- R167: the FSM clock keeps the LFSR, so the clock's feedback is that of the old engine. -/
theorem ksClock_eq_tick : ksClock = Spec.tick := by
  funext e
  have lfsr : (ksClock e).lfsr = (Spec.tick e).lfsr := lfsrClockKs_lfsr (fsmClock e)
  have fsm : (ksClock e).fsm = (Spec.tick e).fsm := rfl
  exact congrArg₂ Engine.mk lfsr fsm

/-! ### F9_SETUP -/

theorem exec_f9Setup (s : State) :
    exec .f9Setup s = finish (deriveContext (runInitialize (packedKey s) (f9Iv s) s)) := rfl

/-- R201: the key words in the order of the setups. -/
theorem packedKey_eq_packed (s : State) : packedKey s = Spec.packed s.opr.key := rfl

/-- R201: DIRECTION moved to bit 31 and to bit 15. -/
theorem direction_shifted : ∀ d : BitVec 1,
    d.setWidth 32 <<< 31 = (if d = 1 then 0x80000000 else 0 : Word) ∧
      d.setWidth 32 <<< 15 = (if d = 1 then 0x00008000 else 0 : Word) := by
  decide

/-- R201: the IV as the rule writes it. -/
theorem f9Iv_eq (s : State) :
    f9Iv s =
      { w0 := s.opr.fresh ^^^ (if s.opr.direction = 1 then 0x00008000 else 0)
        w1 := s.opr.count ^^^ (if s.opr.direction = 1 then 0x80000000 else 0)
        w2 := s.opr.fresh, w3 := s.opr.count } := by
  obtain ⟨bit31, bit15⟩ := direction_shifted s.opr.direction
  rw [f9Iv, bit31, bit15]

/-- R202: after an initialisation, which leaves PRIMED = 0, the priming clock runs before the five words. -/
theorem keystreamWords_five_unprimed (e : Engine) :
    keystreamWords 5 e false = ⟨ksWords 5 (Spec.tick e), Spec.tick^[5] (Spec.tick e), true⟩ := by
  rw [keystreamWords_pos (by decide), ksAdvance_eq_iterate, ← ksClock_eq_tick]
  rfl

/-- R202: P, Q and Z5 word by word. -/
theorem f9Context_ksWords (e : Engine) :
    let z := fun k => ksOutput (Spec.tick^[k] e)
    f9Context (ksWords 5 e) = { p := z 0 ++ z 1, q := z 2 ++ z 3, z5 := z 4 } := by
  rw [← ksClock_eq_tick]
  rfl

/-- R202, R203: what F9_SETUP completes with. -/
theorem deriveContext_runInitialize (k iv : Quad) (s : State) :
    let e := Spec.tick (Spec.initialised k iv)
    let t := deriveContext (runInitialize k iv s)
    t.f9 = f9Context (ksWords 5 e) ∧ t.eng = Spec.tick^[5] e ∧
      t.engstat = { state := .streaming, primed := true, f9valid := true } := by
  rw [← initEngine_eq_initialised]
  simp [keystreamOf, keystreamWords_five_unprimed]

/-- R53: the frame of F9_SETUP, everything but the engine, ENGSTAT, the F9 context and the completion's STATUS bits. -/
def keepsAllButContext (s t : State) : Prop :=
  keepsControl s t ∧ keepsVok s t ∧ keepsRes s t ∧ keepsHash s t ∧ keepsFreg s t ∧ keepsDbuf s t

theorem keepsAllButContext_complete_deriveContext (code : ErrCode) (k iv : Quad) (s : State) :
    keepsAllButContext s (complete code (deriveContext (runInitialize k iv s))) := by
  simp [keepsAllButContext, keepsControl, keepsVok, keepsRes, keepsHash, keepsFreg, keepsDbuf, dbufByte]

/-! ### The bits of the message blocks -/

/-- R125: with bits counted from the most significant, the mask keeps the first `n`. -/
theorem mask8bit_getLsbD (n : Nat) {b : Nat} (hb : b < 8) : (mask8bit n).getLsbD (7 - b) = decide (b < n) := by
  have ones : 0xFF#8 = BitVec.allOnes 8 := by decide
  rw [mask8bit, ones, BitVec.getLsbD_shiftLeft, BitVec.getLsbD_allOnes, Bool.eq_iff_iff]
  simp only [Bool.and_eq_true, Bool.not_eq_true', decide_eq_true_eq, decide_eq_false_iff_not]
  omega

/-- R205: bit `b` of byte `j` of the padded message is its bit `8 j + b`, or 0 at and beyond `len`. -/
theorem messageByte_getLsbD (data : List Byte) (len j : Nat) {b : Nat} (hb : b < 8) :
    (messageByte data len j).getLsbD (7 - b) = (decide (8 * j + b < len) && (data.getD j 0).getLsbD (7 - b)) := by
  have count : byteCount len = (len + 7) / 8 := rfl
  rw [messageByte]
  split
  next padding =>
    have beyond : ¬ 8 * j + b < len := by omega
    simp [beyond]
  next =>
    split
    next last =>
      have kept : b < len % 8 ↔ 8 * j + b < len := by omega
      rw [BitVec.getLsbD_and, mask8bit_getLsbD _ hb, Bool.and_comm]
      simp only [kept]
    next =>
      have inside : 8 * j + b < len := by omega
      simp [inside]

/-- R8: bit `k` of a word, counted from the most significant, is bit `k mod 8` of byte `k / 8`. -/
theorem getLsbD_eq_byteOf (w : Word) {k : Nat} (hk : k < 32) : w.getLsbD (31 - k) = (byteOf (k / 8) w).getLsbD (7 - k % 8) := by
  have inByte : 7 - k % 8 < 8 := by omega
  have place : 24 - 8 * (k / 8) + (7 - k % 8) = 31 - k := by omega
  simp [byteOf, inByte, place]

theorem be32_getLsbD (f : Nat → Byte) {k : Nat} (hk : k < 32) :
    (be32 (f 0) (f 1) (f 2) (f 3)).getLsbD (31 - k) = (f (k / 8)).getLsbD (7 - k % 8) := by
  have byte : k / 8 < 4 := by omega
  rw [getLsbD_eq_byteOf _ hk]
  congr 1
  generalize k / 8 = j at byte
  match j, byte with
  | 0, _ => exact byteOf_zero_be32 ..
  | 1, _ => exact byteOf_one_be32 ..
  | 2, _ => exact byteOf_two_be32 ..
  | 3, _ => exact byteOf_three_be32 ..

/-- R8: the same for a doubleword, whose first four bytes are its upper word. -/
theorem be64_getLsbD (f : Nat → Byte) {k : Nat} (hk : k < 64) :
    (be64 (f 0) (f 1) (f 2) (f 3) (f 4) (f 5) (f 6) (f 7)).getLsbD (63 - k) = (f (k / 8)).getLsbD (7 - k % 8) := by
  rw [be64, BitVec.getLsbD_append]
  by_cases upper : k < 32
  · have above : ¬ 63 - k < 32 := by omega
    have place : 63 - k - 32 = 31 - k := by omega
    rw [if_neg above, place, be32_getLsbD f upper]
  · have below : 63 - k < 32 := by omega
    have place : 63 - k = 31 - (k - 32) := by omega
    have byte : 4 + (k - 32) / 8 = k / 8 := by omega
    have bit : (k - 32) % 8 = k % 8 := by omega
    rw [if_pos below, place, be32_getLsbD (fun j => f (4 + j)) (by omega), byte, bit]

/-- R205: block `i` holds the bytes from `8 i` on, so its bit `k` is bit `64 i + k` of the padded message. -/
theorem messageBlock_getLsbD (data : List Byte) (len i : Nat) {k : Nat} (hk : k < 64) :
    (messageBlock data len i).getLsbD (63 - k) =
      (decide (64 * i + k < len) && (data.getD (8 * i + k / 8) 0).getLsbD (7 - k % 8)) := by
  have place : 8 * (8 * i + k / 8) + k % 8 = 64 * i + k := by omega
  have bytes := be64_getLsbD (fun j => messageByte data len (8 * i + j)) hk
  rw [messageByte_getLsbD _ _ _ (by omega), place] at bytes
  exact bytes

/-- R204: of the `d` blocks all but the length block are message blocks. -/
theorem blockCount_sub_one (len : Nat) : blockCount len - 1 = (len + 63) / 64 := by
  rw [blockCount]
  split <;> omega

theorem messageBlocks_eq (data : List Byte) (len : Nat) :
    messageBlocks data len = (List.range ((len + 63) / 64)).map (messageBlock data len) := by
  rw [messageBlocks, blockCount_sub_one]

theorem messageBlocks_length (data : List Byte) (len : Nat) : (messageBlocks data len).length = (len + 63) / 64 := by
  rw [messageBlocks_eq, List.length_map, List.length_range]

theorem messageBlocks_getD (data : List Byte) {len i : Nat} (hi : i < (len + 63) / 64) (d : DWord) :
    (messageBlocks data len).getD i d = messageBlock data len i := by
  rw [messageBlocks_eq]
  simp [hi]

/-- A message bit below `len` as the bytes read from DBUF hold it. -/
theorem messageBit_eq_memRead (s : State) (a : Nat) {len j : Nat} (hj : j < len) :
    messageBit s a j = ((memRead s a ((len + 7) / 8)).getD (j / 8) 0).getLsbD (7 - j % 8) := by
  rw [memRead_getD _ _ _ _ (by omega), messageBit]

/-! ### How F9_HASH and F9_VERIFY complete -/

/-- R211: bit 8 of STATUS is VOK. -/
theorem statusWord_getLsbD_vok (s : State) : (statusWord s).getLsbD 8 = s.status.vok := by
  simp only [statusWord, BitVec.getLsbD_append, Nat.reduceLT, Nat.reduceSub, ↓reduceIte]
  simp

/-- R53: the frame of a hash, everything but EVAL, MACI and STATUS. -/
def keepsAllButHash (s t : State) : Prop :=
  keepsControl s t ∧ keepsRes s t ∧ keepsFreg s t ∧ keepsF9 s t ∧ keepsEngine s t ∧ keepsEngstat s t ∧ keepsDbuf s t

theorem keepsAllButHash_complete_writeVok (code : ErrCode) (v : Bool) (s : State) :
    keepsAllButHash s (complete code (writeVok v (writeHash s))) := by
  simp [keepsAllButHash, keepsControl, keepsRes, keepsFreg, keepsF9, keepsEngine, keepsEngstat, keepsDbuf, dbufByte]

section

variable {s : State} (valid : s.engstat.f9valid = true) (range : srcOffset s + (s.opr.len.toNat + 7) / 8 ≤ s.cfg.dbufSize)
include valid range

/-- R208: both checks pass with a valid context and the message in DBUF. -/
theorem exec_f9Hash_of_checked : exec .f9Hash s = finish (writeHash s) := by
  have inside : inRange s (srcOffset s) (byteCount (f9Length s)) = true := decide_eq_true range
  have unfolded : exec .f9Hash s = execF9Hash s := rfl
  simp [unfolded, execF9Hash, valid, inside]

/-- R210: the same for F9_VERIFY. -/
theorem exec_f9Verify_of_checked :
    exec .f9Verify s = finish (writeVok (decide (maciOf s = s.opr.tag)) (writeHash s)) := by
  have inside : inRange s (srcOffset s) (byteCount (f9Length s)) = true := decide_eq_true range
  have unfolded : exec .f9Verify s = execF9Verify s := rfl
  simp [unfolded, execF9Verify, valid, inside]

end

/-! ### The statements about F9_SETUP, the message blocks and F9_VERIFY -/

/-- Settles O52: F9_SETUP finishes with the context derived from `initEngine` of the packed key and of R201's IV, whose
priming clock is the spec's first tick. -/
theorem integritySetupResult : Obligations.IntegritySetupResult := by
  intro s
  have run := exec_f9Setup s
  rw [packedKey_eq_packed, f9Iv_eq] at run
  obtain ⟨context, engine, engstat⟩ := deriveContext_runInitialize _ _ s
  rw [f9Context_ksWords] at context
  exact ⟨_, run, ⟨context, engine⟩, engstat, complete_ok_succeeded _, keepsAllButContext_complete_deriveContext .ok _ _ s⟩

/-- Settles O53: bit `k` of block `i` is bit `64 i + k` of the padded message, whose bytes below the length are those read. -/
theorem messageBlocksAreMessageBits : Obligations.MessageBlocksAreMessageBits := by
  intro s a len
  refine ⟨messageBlocks_length _ len, fun i k hi hk => ?_⟩
  have byte : (64 * i + k) / 8 = 8 * i + k / 8 := by omega
  have bit : (64 * i + k) % 8 = k % 8 := by omega
  rw [messageBlocks_getD _ hi, messageBlock_getLsbD _ _ _ hk]
  by_cases inside : 64 * i + k < len
  · rw [messageBit_eq_memRead s a inside, byte, bit]
  · simp [inside]

/-- Settles O55: both commands finish with the hash written, F9_VERIFY with the comparison in VOK besides. -/
theorem verifyResult : Obligations.VerifyResult := by
  intro s valid range
  exact ⟨_, _, exec_f9Hash_of_checked valid range, exec_f9Verify_of_checked valid range, rfl, rfl, statusWord_getLsbD_vok _,
    complete_ok_succeeded _, keepsAllButHash_complete_writeVok .ok _ s⟩

end Sys2Proof.Proofs
end

section
/-! The machine's invariant, step by step: which bytes of DBUF a command or a host write can store (20_memory.md R75), when a
completion is announced (45_control.md R224), and from these the statement that every step keeps the invariant. -/

namespace Sys2Proof.Proofs

open Sys2Proof.Machine Sys2Proof.Laws

/-! ### Stores within the data buffer -/

/-- R75: from `s` to `t` the platform is kept, and DBUF too but for bytes stored at one range within DBUF_SIZE. -/
def storesWithin (s t : State) : Prop :=
  t.cfg = s.cfg ∧ (t.dbuf = s.dbuf ∨ ∃ a bs, a + bs.length ≤ s.cfg.dbufSize ∧ t.dbuf = setCells a bs s.dbuf)

theorem storesWithin_of_dbuf_eq {s t : State} (cfg : t.cfg = s.cfg) (dbuf : t.dbuf = s.dbuf) : storesWithin s t :=
  ⟨cfg, .inl dbuf⟩

theorem storesWithin_memWrite {s u : State} {a : Nat} {bs : List Byte} (cfg : u.cfg = s.cfg) (dbuf : u.dbuf = s.dbuf)
    (range : a + bs.length ≤ s.cfg.dbufSize) : storesWithin s (memWrite a bs u) :=
  ⟨cfg, .inr ⟨a, bs, range, by rw [memWrite_dbuf, dbuf]⟩⟩

theorem storesWithin_keeps_wf {s t : State} (h : storesWithin s t) (wf : Memory.wf s.cfg.dbufSize s.dbuf = true) :
    Memory.wf t.cfg.dbufSize t.dbuf = true := by
  obtain ⟨cfg, same | ⟨a, bs, range, stored⟩⟩ := h
  · rwa [cfg, same]
  · rw [cfg, stored]
    exact setCells_keeps_wf bs range wf

theorem inRange_iff (s : State) (a n : Nat) : inRange s a n = true ↔ a + n ≤ s.cfg.dbufSize := by
  simp [inRange]

/-! ### What every command completes with -/

/-- R66, R75: `o` is the completion, with some code, of an effect that stores within DBUF. -/
def completesWithin (s : State) (o : Host.Outcome State Fault Refusal) : Prop :=
  ∃ code u, o = .next (complete code u) ∧ storesWithin s u

theorem completesWithin_finish {s u : State} (h : storesWithin s u) : completesWithin s (finish u) :=
  ⟨.ok, u, rfl, h⟩

/-- R233: a command that raises an error stores nothing. -/
theorem completesWithin_raiseError (code : ErrCode) (s : State) : completesWithin s (raiseError code s) :=
  ⟨code, s, rfl, storesWithin_of_dbuf_eq rfl rfl⟩

/-- R235: a command's check ends it with an error or lets it go on. -/
theorem completesWithin_check {p : Prop} [Decidable p] {code : ErrCode} {s : State} {o : Host.Outcome State Fault Refusal}
    (passed : ¬p → completesWithin s o) : completesWithin s (if p then raiseError code s else o) := by
  split
  next => exact completesWithin_raiseError code s
  next ok => exact passed ok

theorem execKsWord_completesWithin (s : State) : completesWithin s (execKsWord s) := by
  unfold execKsWord
  split
  next => exact completesWithin_finish (storesWithin_of_dbuf_eq rfl rfl)
  next => exact completesWithin_raiseError _ s

/-- R173: the range that KS_GEN checks is the range it stores to. -/
theorem execKsGen_completesWithin (n : Nat) (s : State) : completesWithin s (execKsGen n s) := by
  refine completesWithin_check fun _ => completesWithin_check fun checked =>
    completesWithin_finish (storesWithin_memWrite rfl rfl ?_)
  simp only [Bool.not_eq_true', Bool.not_eq_false, inRange_iff] at checked
  rwa [keystreamBytes_length, keystreamOf_length]

/-- R191: the second range that F8 checks is the range it stores to. -/
theorem execF8_completesWithin (s : State) : completesWithin s (execF8 s) := by
  refine completesWithin_check fun _ => completesWithin_check fun _ => completesWithin_check fun checked =>
    completesWithin_finish (storesWithin_memWrite rfl rfl ?_)
  simp only [Bool.not_eq_true', Bool.not_eq_false, Bool.and_eq_true, inRange_iff] at checked
  obtain ⟨-, range⟩ := checked
  rwa [f8Output_length]

/-- Every command completes, and stores within DBUF only. The commands not named check nothing and store nothing. -/
theorem exec_completesWithin (i : Instr) (s : State) : completesWithin s (exec i s) := by
  have stores_nothing {u : State} (cfg : u.cfg = s.cfg) (dbuf : u.dbuf = s.dbuf) : completesWithin s (finish u) :=
    completesWithin_finish (storesWithin_of_dbuf_eq cfg dbuf)
  cases i with
  | mask8 n => exact completesWithin_check fun _ => stores_nothing rfl rfl
  | ksWord => exact execKsWord_completesWithin s
  | ksGen n => exact execKsGen_completesWithin n s
  | f8 => exact execF8_completesWithin s
  | f9Hash | f9Verify => exact completesWithin_check fun _ => completesWithin_check fun _ => stores_nothing rfl rfl
  | _ => exact stores_nothing rfl rfl

/-! ### What a host write leaves of DBUF and of the announced completion -/

/-- R61: a DBUF word that the address map names lies within the buffer. -/
theorem writeDbufWord_storesWithin {s : State} {off j : Nat} (target : targetOf s.cfg off = .dbufWord j) (w : Word) :
    storesWithin s (writeDbufWord j w s) :=
  storesWithin_memWrite rfl rfl (dbufWord_in_range target)

theorem writeReg_storesWithin (r : Reg) (w : Word) (s : State) : storesWithin s (writeReg r w s) := by
  cases r <;> exact storesWithin_of_dbuf_eq rfl rfl

/-- R66, R224: CMD and STATUS are the only registers whose write reaches PENDING or DONE; the one clears DONE as it sets BUSY,
the other can only clear DONE. -/
theorem writeReg_keeps_unannounced (r : Reg) (w : Word) {s : State} (h : busy s = true → s.status.done = false)
    (running : busy (writeReg r w s) = true) : (writeReg r w s).status.done = false := by
  cases r with
  | cmd => rfl
  | status =>
    have done : s.status.done = false := h running
    simp [writeReg, done]
  | _ => exact h running

/-! ### The invariant -/

theorem inv_of_storesWithin {s t : State} (h : Inv s) (stores : storesWithin s t)
    (unannounced : busy t = true → t.status.done = false) : Inv t := by
  obtain ⟨canonical, -⟩ := h
  exact ⟨storesWithin_keeps_wf stores canonical, unannounced⟩

/-- A completed command is not pending, so its DONE = 1 is allowed. -/
theorem inv_of_completesWithin {s t : State} (h : Inv s) (run : completesWithin s (.next t)) : Inv t := by
  obtain ⟨code, u, completed, stores⟩ := run
  cases completed
  exact inv_of_storesWithin h stores (fun running => absurd running Bool.false_ne_true)

theorem powerOn_inv (s : State) : Inv (powerOn s) :=
  ⟨powerOn_memory_wf s, fun _ => rfl⟩

/-- The events still to come are no part of the invariant. -/
theorem inv_of_traffic (rest : List HostEvent) {s : State} (h : Inv s) : Inv { s with host := rest } := h

theorem unitStep_keeps_inv {s t : State} (h : Inv s) (turn : unitStep s = .next t) : Inv t := by
  obtain ⟨-, rfl⟩ | ⟨_, i, -, -, run⟩ | ⟨_, e, -, -, raised⟩ := unitStep_cases turn
  · exact h
  · exact inv_of_completesWithin h (run ▸ exec_completesWithin i s)
  · exact inv_of_completesWithin h (raised ▸ completesWithin_raiseError _ s)

theorem hostRead_keeps_inv (off size : Nat) {s : State} (h : Inv s) : Inv (hostRead off size s) := by
  obtain ⟨r, answer⟩ | answer := hostRead_cases off size s <;> rw [answer] <;> exact h

theorem hostWrite_keeps_inv (off size : Nat) (w : Word) {s : State} (h : Inv s) : Inv (hostWrite off size w s) := by
  have ⟨_, unannounced⟩ := h
  obtain refused | ⟨-, dropped⟩ | ignored | ⟨r, -, -, taken⟩ | ⟨j, target, -, stored⟩ := hostWrite_cases off size w s
  · rw [refused]
    exact h
  · rw [dropped]
    exact h
  · rw [ignored]
    exact h
  · rw [taken]
    exact inv_of_storesWithin h (writeReg_storesWithin r w s) (writeReg_keeps_unannounced r w unannounced)
  · rw [stored]
    exact inv_of_storesWithin h (writeDbufWord_storesWithin target w) unannounced

/-- Settles O59: each kind of step keeps the invariant, from the state whose traffic has lost the step's event. -/
theorem stepKeepsInvariant : Obligations.StepKeepsInvariant := by
  intro s t h run
  obtain ⟨-, turn⟩ | ⟨rest, -, turn⟩ | ⟨rest, -, rfl⟩ | ⟨_, size, rest, off, -, -, rfl⟩ | ⟨_, size, w, rest, off, -, -, rfl⟩ :=
    step_cases run
  · exact unitStep_keeps_inv h turn
  · exact unitStep_keeps_inv (inv_of_traffic rest h) turn
  · exact powerOn_inv _
  · exact hostRead_keeps_inv off size (inv_of_traffic rest h)
  · exact hostWrite_keeps_inv off size w (inv_of_traffic rest h)

end Sys2Proof.Proofs
end

section
/-! Control (45_control.md R220 to R224): STATUS and CTRL bit by bit, the W1C write of STATUS, and what SRESET leaves in each
register; from these the statements about the acknowledge, SRESET and NOP. -/

namespace Sys2Proof.Proofs

open Sys2Proof.Machine Sys2Proof.Laws

/-! ### The bits of STATUS and CTRL -/

/-- R26: bits 31:4 of STATUS, which hold VOK and ERRCODE. -/
def statusHigh (s : State) : BitVec 28 := 0#23 ++ BitVec.ofBool s.status.vok ++ s.status.errcode.code

theorem statusWord_eq_concat (s : State) :
    statusWord s =
      ((((statusHigh s).concat s.status.overrun).concat s.status.err).concat s.status.done).concat (busy s) := rfl

theorem statusWord_getLsbD_busy (s : State) : (statusWord s).getLsbD 0 = busy s := by
  rw [statusWord_eq_concat, BitVec.getLsbD_concat_zero]

theorem statusWord_getLsbD_done (s : State) : (statusWord s).getLsbD 1 = s.status.done := by
  rw [statusWord_eq_concat, BitVec.getLsbD_concat_succ, BitVec.getLsbD_concat_zero]

theorem statusWord_getLsbD_err (s : State) : (statusWord s).getLsbD 2 = s.status.err := by
  rw [statusWord_eq_concat, BitVec.getLsbD_concat_succ, BitVec.getLsbD_concat_succ, BitVec.getLsbD_concat_zero]

theorem statusWord_getLsbD_overrun (s : State) : (statusWord s).getLsbD 3 = s.status.overrun := by
  rw [statusWord_eq_concat, BitVec.getLsbD_concat_succ, BitVec.getLsbD_concat_succ, BitVec.getLsbD_concat_succ,
    BitVec.getLsbD_concat_zero]

theorem statusWord_getLsbD_high (s : State) (i : Nat) : (statusWord s).getLsbD (i + 4) = (statusHigh s).getLsbD i := by
  rw [statusWord_eq_concat, BitVec.getLsbD_concat_succ, BitVec.getLsbD_concat_succ, BitVec.getLsbD_concat_succ,
    BitVec.getLsbD_concat_succ]

/-- R25: bit 0 of CTRL is IRQ_EN. -/
theorem ctrlWord_getLsbD_irqEn (s : State) : (ctrlWord s).getLsbD 0 = s.ctrl.irqEn :=
  BitVec.getLsbD_concat_zero

/-! ### The W1C write of STATUS -/

theorem hostWrite_status (w : Word) (s : State) : hostWrite 0x008 32 w s = respond .accepted (acknowledge w s) :=
  hostWrite_reg_taken (r := .status) (.inr rfl) w

/-- R224: as a word, the acknowledge clears in STATUS the bits of `w` among bits 3:1. -/
theorem statusWord_acknowledge (w : Word) (s : State) : statusWord (acknowledge w s) = statusWord s &&& ~~~(w &&& 0xE) := by
  apply BitVec.eq_of_getLsbD_eq
  intro i hi
  rw [BitVec.getLsbD_and, BitVec.getLsbD_not, BitVec.getLsbD_and, decide_eq_true hi, Bool.true_and]
  match i with
  | 0 => rw [statusWord_getLsbD_busy, statusWord_getLsbD_busy]; simp [busy]
  | 1 => rw [statusWord_getLsbD_done, statusWord_getLsbD_done]; simp
  | 2 => rw [statusWord_getLsbD_err, statusWord_getLsbD_err]; simp
  | 3 => rw [statusWord_getLsbD_overrun, statusWord_getLsbD_overrun]; simp
  | i + 4 =>
    have high : statusHigh (acknowledge w s) = statusHigh s := rfl
    have untouched : (0xE : Word).getLsbD (i + 4) = false := by
      have small : 0xE < 2 ^ (i + 4) := calc
        0xE < 2 ^ 4 := by decide
        _ ≤ 2 ^ (i + 4) := Nat.pow_le_pow_right (by decide) (by omega)
      exact Nat.testBit_lt_two_pow small
    rw [statusWord_getLsbD_high, statusWord_getLsbD_high, high, untouched, Bool.and_false, Bool.not_false, Bool.and_true]

theorem irq_acknowledge {w : Word} (done : w.getLsbD 1 = true) (err : w.getLsbD 2 = true) (s : State) :
    irq (acknowledge w s) = false := by
  simp [irq, done, err]

/-- Settles O21: the write is `acknowledge`, whose STATUS word, bit by bit, is the old one without the bits of `w`. -/
theorem acknowledgeDropsInterrupt : Obligations.AcknowledgeDropsInterrupt := by
  intro s w
  rw [hostWrite_status]
  refine ⟨rfl, statusWord_acknowledge w s, ?irq, fun both => ?dropped⟩
  case irq => rw [ctrlWord_getLsbD_irqEn, statusWord_getLsbD_done, statusWord_getLsbD_err, irq]
  case dropped =>
    have bit (i : Nat) : (w.getLsbD i && (6 : Word).getLsbD i) = (6 : Word).getLsbD i := by rw [← BitVec.getLsbD_and, both]
    exact irq_acknowledge (by simpa using bit 1) (by simpa using bit 2) s

/-! ### SRESET and NOP -/

theorem exec_sreset (s : State) : exec .sreset s = finish (resetRegisters s) := rfl

theorem exec_nop (s : State) : exec .nop s = finish s := rfl

/-- R66: a completion shows in STATUS alone. -/
theorem readReg_complete {r : Reg} (h : r ≠ .status) (code : ErrCode) (s : State) :
    readReg r (complete code s) = readReg r s := by
  cases r with
  | status => exact absurd rfl h
  | _ => rfl

/-- R255: the registers of the reset state. -/
theorem readReg_reset (r : Reg) : readReg r State.reset = Spec.resetWord r := by
  cases r <;> decide

/-- R222: what a register reads depends on the reset registers alone, but for STATUS, whose BUSY bit SRESET leaves to the
completion. -/
theorem readReg_resetRegisters {r : Reg} (h : r ≠ .status) (s : State) : readReg r (resetRegisters s) = Spec.resetWord r := by
  rw [← readReg_reset]
  cases r with
  | status => exact absurd rfl h
  | _ => rfl

/-- R223: after SRESET's completion, STATUS holds DONE alone, whatever it held before. -/
theorem statusWord_complete_resetRegisters (s : State) : statusWord (complete .ok (resetRegisters s)) = 2 := by
  have forgets : statusWord (complete .ok (resetRegisters s)) = statusWord (complete .ok State.reset) := rfl
  rw [forgets]
  decide

/-- Settles O25: SRESET finishes with the registers reset, and CTRL.IRQ_EN = 0 among them holds `irq` down. -/
theorem sresetResult : Obligations.SresetResult := by
  intro s
  refine ⟨_, exec_sreset s, fun r other => ?registers, statusWord_complete_resetRegisters s, rfl, fun _ => rfl, rfl, rfl, rfl,
    rfl, rfl⟩
  case registers => rw [readReg_complete other, readReg_resetRegisters other]

/-- Settles O26: NOP is a completion without an effect, and its code 0 adds nothing to ERR. -/
theorem nopResult : Obligations.NopResult := by
  intro s
  simp [exec_nop, finish, complete]

end Sys2Proof.Proofs
end

section
/-! Errors (60_exceptions.md R230 to R235): the table of opcodes against the words that the decoder refuses, the first error that
applies to a command, and the one rule for how a completion ends: with the first error that applies and nothing but STATUS
changed, or, where none applies, with the command's effect. From it the statements about what an error changes and about the
order of the errors. -/

namespace Sys2Proof.Proofs

open Sys2Proof.Machine Sys2Proof.Laws

/-! ### Unassigned opcodes and reserved bits (R86, R89, R91) -/

theorem fieldOp_eq_div (w : Word) : fieldOp w = w.toNat / 2 ^ 24 := by
  have bound : w.toNat < 2 ^ 32 := w.isLt
  rw [fieldOp, wordField, BitVec.extractLsb'_toNat, Nat.shiftRight_eq_div_pow]
  omega

theorem fieldOp_lt (w : Word) : fieldOp w < 256 := (BitVec.extractLsb' 24 8 w).isLt

/-- R86, R89: a word's row in the table of opcodes names the format whose reserved bits the spec lists at the word's opcode. -/
theorem opcodeRow_mask (w : Word) :
    (opcodeRow w).map (fun row => rsvdMask row.1) = Spec.reservedMasks.lookup (fieldOp w) := by
  unfold opcodeRow
  split
  case h_25 =>
    symm
    simp_all [Spec.reservedMasks]
  all_goals next op => rw [op]; rfl

/-- R91: the unassigned ranges hold the opcodes that have no row, and no others. -/
theorem unassignedRanges_any_eq :
    ∀ op < 256, (Spec.unassignedRanges.any fun r => decide (r.1 ≤ op ∧ op ≤ r.2)) = (Spec.reservedMasks.lookup op).isNone := by
  decide +kernel

/-- R89: the table of opcodes lists no opcode twice. -/
theorem reservedMasks_lookup : ∀ r ∈ Spec.reservedMasks, Spec.reservedMasks.lookup r.1 = some r.2 := by
  decide

theorem unassigned_eq (w : Word) : Spec.unassigned w = (opcodeRow w).isNone := by
  rw [Spec.unassigned, ← fieldOp_eq_div, unassignedRanges_any_eq _ (fieldOp_lt w), ← opcodeRow_mask, Option.isNone_map]

theorem reservedBitSet_iff (w : Word) :
    Spec.reservedBitSet w = true ↔ ∃ mask, Spec.reservedMasks.lookup (fieldOp w) = some mask ∧ w &&& mask ≠ 0#32 := by
  simp only [Spec.reservedBitSet, ← fieldOp_eq_div, List.any_eq_true, decide_eq_true_eq]
  constructor
  · rintro ⟨r, listed, op, bit⟩
    exact ⟨r.2, op ▸ reservedMasks_lookup r listed, bit⟩
  · rintro ⟨mask, found, bit⟩
    obtain ⟨_, _, listed, -⟩ := List.lookup_eq_some_iff.1 found
    exact ⟨(fieldOp w, mask), by simp [listed], rfl, bit⟩

theorem reservedBitSet_of_row {w : Word} {fmt : Format} {i : Instr} (row : opcodeRow w = some (fmt, i)) :
    Spec.reservedBitSet w = true ↔ w &&& rsvdMask fmt ≠ 0#32 := by
  have mask : Spec.reservedMasks.lookup (fieldOp w) = some (rsvdMask fmt) := by rw [← opcodeRow_mask, row]; rfl
  simp [reservedBitSet_iff, mask]

/-! ### The first error that applies (R231, R235) -/

/-- R235: the first of E_OPERAND, E_STATE and E_RANGE whose cause holds for a decoded command. -/
def commandError (i : Instr) (s : State) : ErrCode :=
  if Spec.operandBad i s then .operand else if Spec.stateBad i s then .state else if Spec.rangeBad i s then .range else .ok

/-- R235: the first error that applies to a command word. -/
def wordError (w : Word) (s : State) : ErrCode :=
  match decode w with
  | .ok i => commandError i s
  | .error e => decodeErrCode e

theorem commandError_code (i : Instr) (s : State) :
    (commandError i s).code =
      if Spec.operandBad i s then 3 else if Spec.stateBad i s then 4 else if Spec.rangeBad i s then 5 else 0 := by
  rw [commandError, apply_ite ErrCode.code, apply_ite ErrCode.code, apply_ite ErrCode.code]
  rfl

/-- R90: the decoder refuses a word exactly for the spec's first two causes, in the spec's order. -/
theorem firstError_eq_wordError (w : Word) (s : State) : Spec.firstError w s = (wordError w s).code := by
  cases row : opcodeRow w with
  | none => simp [Spec.firstError, wordError, unassigned_eq, row, decode_of_no_row row, decodeErrCode, ErrCode.code]
  | some entry =>
    obtain ⟨fmt, i⟩ := entry
    have assigned : Spec.unassigned w = false := by rw [unassigned_eq, row]; rfl
    by_cases clear : w &&& rsvdMask fmt = 0#32
    · have unset : ¬ Spec.reservedBitSet w = true := fun set => (reservedBitSet_of_row row).1 set clear
      simp [Spec.firstError, wordError, assigned, unset, decode_of_row row clear, commandError_code]
    · have set : Spec.reservedBitSet w = true := (reservedBitSet_of_row row).2 clear
      simp [Spec.firstError, wordError, assigned, set, decode_of_reserved_bit row clear, decodeErrCode, ErrCode.code]

/-! ### The causes as the commands check them -/

theorem not_streaming_eq (s : State) : (!streaming s) = decide (s.engstat.state ≠ .streaming) := by
  simp [streaming]

theorem not_inRange_eq (s : State) (a n : Nat) : (!inRange s a n) = decide (s.cfg.dbufSize < a + n) := by
  rw [inRange, ← decide_not]
  exact decide_eq_decide.2 Nat.not_le

theorem hiHalf_ne_zero_iff (d : DWord) : hiHalf d ≠ 0 ↔ 2 ^ 32 ≤ d.toNat := by
  have bound : d.toNat < 2 ^ 64 := d.isLt
  have high : (hiHalf d).toNat = d.toNat / 2 ^ 32 % 2 ^ 32 := by
    rw [hiHalf, BitVec.extractLsb'_toNat, Nat.shiftRight_eq_div_pow]
  rw [BitVec.toNat_ne, high, BitVec.ofNat_eq_ofNat, BitVec.toNat_zero]
  omega

theorem commandError_mask8 (n : Nat) (s : State) : commandError (.mask8 n) s = if n > 8 then .operand else .ok := by
  simp [commandError, Spec.operandBad, Spec.stateBad, Spec.rangeBad]

theorem commandError_ksWord (s : State) : commandError .ksWord s = if !streaming s then .state else .ok := by
  rw [not_streaming_eq]
  rfl

theorem exec_ksWord (s : State) :
    exec .ksWord s =
      if !streaming s then raiseError .state s
      else finish (writeRes (zextWord ((keystreamOf 1 s).headD 0)) (advanceKeystream 1 s)) := by
  have unfolded : exec .ksWord s = execKsWord s := rfl
  rw [unfolded, execKsWord]
  cases streaming s <;> rfl

theorem commandError_ksGen (n : Nat) (s : State) :
    commandError (.ksGen n) s =
      if !streaming s then .state else if !inRange s (dstOffset s) (4 * n) then .range else .ok := by
  rw [not_streaming_eq, not_inRange_eq]
  rfl

theorem operandBad_f8 (s : State) : Spec.operandBad .f8 s = decide (hiHalf s.opr.len ≠ 0) :=
  decide_eq_decide.2 (hiHalf_ne_zero_iff _).symm

/-- R191: once LEN_HI = 0 is checked, the length that F8 checks its two ranges by is the whole of LEN. -/
theorem rangeBad_f8 {s : State} (h : hiHalf s.opr.len = 0) :
    Spec.rangeBad .f8 s =
      !(inRange s (srcOffset s) (byteCount (f8Length s)) && inRange s (dstOffset s) (4 * wordCount (f8Length s))) := by
  rw [f8Length_of_hiHalf_zero h, Bool.not_and, not_inRange_eq, not_inRange_eq, ← Bool.decide_or]
  rfl

theorem commandError_f8 (s : State) :
    commandError .f8 s =
      if hiHalf s.opr.len ≠ 0 then .operand
      else if !streaming s then .state
      else if !(inRange s (srcOffset s) (byteCount (f8Length s)) && inRange s (dstOffset s) (4 * wordCount (f8Length s))) then
        .range
      else .ok := by
  have state : Spec.stateBad .f8 s = !streaming s := (not_streaming_eq s).symm
  rw [commandError, operandBad_f8, state]
  by_cases long : hiHalf s.opr.len = 0
  · rw [rangeBad_f8 long]
    simp only [decide_eq_true_eq]
  · rw [if_pos (decide_eq_true long), if_pos long]

/-- R208, R210: the two hash commands check the same. -/
theorem commandError_hash {i : Instr} (h : i = .f9Hash ∨ i = .f9Verify) (s : State) :
    commandError i s =
      if !s.engstat.f9valid then .state
      else if !inRange s (srcOffset s) (byteCount (f9Length s)) then .range else .ok := by
  rw [not_inRange_eq]
  rcases h with rfl | rfl <;> rfl

/-! ### How a completion ends -/

/-- R66, R233: where the error `code` applies in `s`, the outcome is that error raised in `s`; where none does, it is some
effect completed. -/
def endsWith (code : ErrCode) (s : State) (o : Host.Outcome State Fault Refusal) : Prop :=
  (code ≠ .ok ∧ o = raiseError code s) ∨ (code = .ok ∧ ∃ u, o = finish u)

theorem endsWith_raiseError {code : ErrCode} (h : code ≠ .ok) (s : State) : endsWith code s (raiseError code s) :=
  .inl ⟨h, rfl⟩

theorem endsWith_finish (s u : State) : endsWith .ok s (finish u) :=
  .inr ⟨rfl, u, rfl⟩

/-- R235: a check that comes first decides the error first. -/
theorem endsWith_check {p : Prop} [Decidable p] {code next : ErrCode} {s : State} {o : Host.Outcome State Fault Refusal}
    (h : code ≠ .ok) (passed : endsWith next s o) :
    endsWith (if p then code else next) s (if p then raiseError code s else o) := by
  split
  · exact endsWith_raiseError h s
  · exact passed

theorem endsWith_errcode {code : ErrCode} {s t : State} (h : endsWith code s (.next t)) : t.status.errcode = code := by
  obtain ⟨-, raised⟩ | ⟨rfl, u, finished⟩ := h
  · cases raised
    rfl
  · cases finished
    rfl

/-- R233: only an error leaves a code other than 0, and it changes STATUS alone. -/
theorem endsWith_afterError {code : ErrCode} {s t : State} (h : endsWith code s (.next t)) (failed : t.status.errcode ≠ .ok) :
    t = afterError t.status.errcode s := by
  rw [endsWith_errcode h] at failed ⊢
  obtain ⟨-, raised⟩ | ⟨ok, -⟩ := h
  · rw [raiseError_eq failed] at raised
    exact Host.Outcome.next.inj raised
  · exact absurd ok failed

/-- R235: each command's checks stand in the order of the errors. The commands not named check nothing. -/
theorem exec_endsWith (i : Instr) (s : State) : endsWith (commandError i s) s (exec i s) := by
  cases i with
  | mask8 n =>
    rw [commandError_mask8]
    exact endsWith_check (by decide) (endsWith_finish s _)
  | ksWord =>
    rw [commandError_ksWord, exec_ksWord]
    exact endsWith_check (by decide) (endsWith_finish s _)
  | ksGen n =>
    rw [commandError_ksGen]
    exact endsWith_check (by decide) (endsWith_check (by decide) (endsWith_finish s _))
  | f8 =>
    rw [commandError_f8]
    exact endsWith_check (by decide) (endsWith_check (by decide) (endsWith_check (by decide) (endsWith_finish s _)))
  | f9Hash | f9Verify =>
    rw [commandError_hash (by simp)]
    exact endsWith_check (by decide) (endsWith_check (by decide) (endsWith_finish s _))
  | _ => exact endsWith_finish s _

theorem decodeErrCode_ne_ok (e : DecodeError) : decodeErrCode e ≠ .ok := by
  cases e <;> decide

theorem completion_endsWith (w : Word) (s : State) : endsWith (wordError w s) s (completion w s) := by
  rw [wordError, completion]
  cases decode w with
  | ok i => exact exec_endsWith i s
  | error e => exact endsWith_raiseError (decodeErrCode_ne_ok e) s

/-! ### The statements about errors -/

/-- R26: bits 7:4 of STATUS are ERRCODE. -/
theorem statusWord_errcode (s : State) : BitVec.extractLsb' 4 4 (statusWord s) = s.status.errcode.code := by
  refine BitVec.eq_of_getLsbD_eq fun i hi => ?_
  rw [BitVec.getLsbD_extractLsb', Nat.add_comm, statusWord_getLsbD_high, statusHigh, BitVec.getLsbD_append]
  simp [hi]

/-- Settles O8: a completion that ends with an error raised it in the state before, and a success leaves the code 0. -/
theorem errorChangesOnlyStatus : Obligations.ErrorChangesOnlyStatus := by
  intro w s t run failed
  exact endsWith_afterError (run ▸ completion_endsWith w s) failed

/-- Settles O10: the completion ends with the first error that applies to the word, and that is the spec's. -/
theorem errorPriority : Obligations.ErrorPriority := by
  intro w s t run
  have code : t.status.errcode = wordError w s := endsWith_errcode (run ▸ completion_endsWith w s)
  rw [statusWord_errcode, code, firstError_eq_wordError]

end Sys2Proof.Proofs
end

section
/-! The command word as its fields (30_encoding.md R85 to R87): what a packed word holds in each field, the reserved bits of a
format as one field, and from these the two directions of the round trip and the words that the decoder refuses. -/

namespace Sys2Proof.Proofs

open Sys2Proof.Machine Sys2Proof.Laws

/-! ### Fields of a word -/

theorem wordField_eq (w : Word) (lo len : Nat) : wordField w lo len = w.toNat / 2 ^ lo % 2 ^ len := by
  rw [wordField, BitVec.extractLsb'_toNat, Nat.shiftRight_eq_div_pow]

theorem wordField_lt (w : Word) (lo len : Nat) : wordField w lo len < 2 ^ len := by
  rw [wordField_eq]
  exact Nat.mod_lt _ (Nat.two_pow_pos len)

/-- A word is packed from its opcode and its bits 23:0. -/
theorem packWord_fields (w : Word) : packWord (fieldOp w) (wordField w 0 24) = w := by
  have number : fieldOp w * 2 ^ 24 + wordField w 0 24 = w.toNat := by
    rw [fieldOp_eq_div, wordField_eq]
    omega
  rw [packWord, number, BitVec.ofNat_toNat, BitVec.setWidth_eq]

/-- A field of bits 23:0 of a packed word is that field of the operands. -/
theorem wordField_packWord {op x lo len : Nat} (ho : op < 256) (hx : x < 2 ^ 24) (h : lo + len ≤ 24) :
    wordField (packWord op x) lo len = x / 2 ^ lo % 2 ^ len := by
  have fits : op * 2 ^ 24 + x < 2 ^ 32 := by omega
  have opcode : op * 2 ^ 24 = 2 ^ lo * (2 ^ len * (2 ^ (24 - lo - len) * op)) := by
    rw [← Nat.mul_assoc, ← Nat.mul_assoc, ← pow_add, ← pow_add, Nat.mul_comm, show lo + len + (24 - lo - len) = 24 by omega]
  rw [wordField_eq, packWord, BitVec.toNat_ofNat, Nat.mod_eq_of_lt fits, opcode,
    Nat.mul_add_div (Nat.two_pow_pos lo), Nat.mul_add_mod]

/-! ### Reserved bits -/

/-- R86: the lowest bit and the number of the reserved bits of a format. -/
def rsvdField : Format → Nat × Nat
  | .n => (0, 24)
  | .bc => (16, 8)
  | .bci => (24, 0)
  | .b8 => (8, 16)
  | .cnt => (16, 8)

theorem rsvdMask_eq (fmt : Format) :
    rsvdMask fmt = (BitVec.allOnes (rsvdField fmt).2).setWidth 32 <<< (rsvdField fmt).1 := by
  cases fmt <;> decide

theorem rsvdField_in_operands (fmt : Format) : (rsvdField fmt).1 + (rsvdField fmt).2 ≤ 24 := by
  cases fmt <;> decide

/-- A mask of `len` ones from bit `lo` on is clear in `w` exactly when that field is 0. -/
theorem and_fieldMask_eq_zero_iff (w : Word) {lo len : Nat} (h : lo + len ≤ 32) :
    w &&& (BitVec.allOnes len).setWidth 32 <<< lo = 0#32 ↔ wordField w lo len = 0 := by
  have zero : wordField w lo len = 0 ↔ BitVec.extractLsb' lo len w = 0#len := by
    rw [wordField, BitVec.toNat_eq, BitVec.toNat_zero]
  rw [zero]
  constructor
  · intro clear
    refine BitVec.eq_of_getLsbD_eq fun i hi => ?_
    have bit := congrArg (BitVec.getLsbD · (lo + i)) clear
    have inside : lo + i < 32 := by omega
    have low : i < 32 := by omega
    simpa [hi, inside, low] using bit
  · intro clear
    refine BitVec.eq_of_getLsbD_eq fun i hi => ?_
    by_cases inside : lo ≤ i ∧ i < lo + len
    · obtain ⟨above, below⟩ := inside
      have bit := congrArg (BitVec.getLsbD · (i - lo)) clear
      have place : i - lo < len := by omega
      simp only [BitVec.getLsbD_extractLsb', place, decide_true, Bool.true_and, BitVec.getLsbD_zero,
        Nat.add_sub_cancel' above] at bit
      simp [bit]
    · have outside : i < lo ∨ ¬ i - lo < len := by omega
      rcases outside with below | above
      · simp [below]
      · simp [above]

/-- R86, R90: a word passes the check of its format's reserved bits exactly when they are 0 as a field. -/
theorem rsvd_clear_iff (w : Word) (fmt : Format) :
    w &&& rsvdMask fmt = 0#32 ↔ wordField w (rsvdField fmt).1 (rsvdField fmt).2 = 0 := by
  have bound := rsvdField_in_operands fmt
  rw [rsvdMask_eq, and_fieldMask_eq_zero_iff w (by omega)]

/-! ### The operand fields of each format (R86, R87) -/

section

variable (w : Word)

theorem operands_bci : wordField w 0 24 = fieldI w * 2 ^ 16 + fieldC w * 2 ^ 8 + fieldLow w := by
  simp only [fieldI, fieldC, fieldLow, wordField_eq]
  omega

theorem operands_bc (clear : wordField w 16 8 = 0) : wordField w 0 24 = fieldC w * 2 ^ 8 + fieldLow w := by
  rw [operands_bci, fieldI, clear]
  omega

theorem operands_b8 (clear : wordField w 8 16 = 0) : wordField w 0 24 = fieldLow w := by
  simp only [fieldLow, wordField_eq] at *
  omega

theorem operands_cnt (clear : wordField w 16 8 = 0) : wordField w 0 24 = fieldCount w := by
  simp only [fieldCount, wordField_eq] at *
  omega

@[simp] theorem fitsByte_wordField (lo : Nat) : fitsByte (wordField w lo 8) = true :=
  decide_eq_true (Nat.le_of_lt_succ (wordField_lt w lo 8))

theorem fitsCount_fieldCount : fitsCount (fieldCount w) = true :=
  decide_eq_true (Nat.le_of_lt_succ (wordField_lt w 0 16))

end

/-! ### Decoding, then encoding -/

/-- R90: all that a decoded word can be. -/
theorem row_of_decode {w : Word} {i : Instr} (decoded : decode w = .ok i) :
    ∃ fmt, opcodeRow w = some (fmt, i) ∧ w &&& rsvdMask fmt = 0#32 := by
  unfold decode at decoded
  split at decoded
  next => cases decoded
  next fmt _ row =>
    split at decoded
    next clear =>
      cases decoded
      exact ⟨fmt, row, clear⟩
    next => cases decoded

/-- R90: a word whose opcode has no row has no reserved bits either. -/
theorem reservedBitSet_of_no_row {w : Word} (row : opcodeRow w = none) : Spec.reservedBitSet w = false := by
  have absent : Spec.reservedMasks.lookup (fieldOp w) = none := by rw [← opcodeRow_mask, row]; rfl
  rw [Bool.eq_false_iff, ne_eq, reservedBitSet_iff, absent]
  simp

/-- R93: a word whose opcode and operand bits are those that a command's encoding packs is that encoding. -/
theorem packWord_eq_of_fields {w : Word} {op x : Nat} (opcode : fieldOp w = op) (operands : wordField w 0 24 = x) :
    packWord op x = w := by
  rw [← opcode, ← operands, packWord_fields]

/-- A row of the table of R89, with its reserved bits 0, gives a well-formed command whose word it is. -/
theorem encode_of_row {w : Word} {fmt : Format} {i : Instr} (row : opcodeRow w = some (fmt, i))
    (clear : wordField w (rsvdField fmt).1 (rsvdField fmt).2 = 0) : i.wf = true ∧ encode i = w := by
  unfold opcodeRow at row
  split at row
  case h_3 opcode =>
    cases row
    exact ⟨by simp [Instr.wf, fieldLow, fieldC], packWord_eq_of_fields opcode (operands_bc w clear)⟩
  case h_4 opcode =>
    cases row
    exact ⟨by simp [Instr.wf, fieldLow, fieldC, fieldI], packWord_eq_of_fields opcode (operands_bci w)⟩
  case h_5 opcode | h_6 opcode | h_7 opcode | h_9 opcode =>
    cases row
    exact ⟨fitsByte_wordField w 0, packWord_eq_of_fields opcode (operands_b8 w clear)⟩
  case h_19 opcode =>
    cases row
    exact ⟨fitsCount_fieldCount w, packWord_eq_of_fields opcode (operands_cnt w clear)⟩
  case h_25 => cases row
  all_goals
    next opcode =>
      cases row
      exact ⟨rfl, packWord_eq_of_fields opcode clear⟩

/-- Settles O2: a word that decodes has a row of the table and its reserved bits are 0, so the opcode and the operand fields
that the row reads are all of its bits. -/
theorem encodeOfDecodeIsWord : Obligations.EncodeOfDecodeIsWord := by
  intro w i decoded
  obtain ⟨fmt, row, clear⟩ := row_of_decode decoded
  exact encode_of_row row ((rsvd_clear_iff w fmt).1 clear)

/-! ### Encoding, then decoding -/

/-- A packed word decodes to the command of its opcode's row, where the reserved bits of the operands are 0. -/
theorem decode_packWord {op x : Nat} {fmt : Format} {i : Instr} (ho : op < 256) (hx : x < 2 ^ 24)
    (row : fieldOp (packWord op x) = op → opcodeRow (packWord op x) = some (fmt, i))
    (clear : x / 2 ^ (rsvdField fmt).1 % 2 ^ (rsvdField fmt).2 = 0) : decode (packWord op x) = .ok i := by
  refine decode_of_row (row (fieldOp_packWord ho hx)) ((rsvd_clear_iff _ fmt).2 ?_)
  rw [wordField_packWord ho hx (rsvdField_in_operands fmt), clear]

section

variable {op x : Nat} (ho : op < 256) (hx : x < 2 ^ 24)
include ho hx

theorem fieldLow_packWord : fieldLow (packWord op x) = x % 2 ^ 8 := by
  rw [fieldLow, wordField_packWord ho hx (by decide), pow_zero, Nat.div_one]

theorem fieldC_packWord : fieldC (packWord op x) = x / 2 ^ 8 % 2 ^ 8 := by
  rw [fieldC, wordField_packWord ho hx (by decide)]

theorem fieldI_packWord : fieldI (packWord op x) = x / 2 ^ 16 % 2 ^ 8 := by
  rw [fieldI, wordField_packWord ho hx (by decide)]

theorem fieldCount_packWord : fieldCount (packWord op x) = x % 2 ^ 16 := by
  rw [fieldCount, wordField_packWord ho hx (by decide), pow_zero, Nat.div_one]

end

/-- R86: format B8, bits 23:8 reserved. The table's row at `op` reads bits 7:0 alone. -/
theorem decode_packWord_b8 {op v : Nat} (i : Nat → Instr) (ho : op < 256) (hv : fitsByte v = true)
    (row : ∀ w, fieldOp w = op → opcodeRow w = some (.b8, i (fieldLow w))) : decode (packWord op v) = .ok (i v) := by
  have bound : v ≤ 255 := of_decide_eq_true hv
  have read : fieldLow (packWord op v) = v := by
    rw [fieldLow_packWord ho (by omega)]
    omega
  refine decode_packWord (fmt := .b8) ho (by omega) (fun opcode => ?_) (by simp only [rsvdField]; omega)
  rw [row _ opcode, read]

theorem decode_encode_mulx {v c : Nat} (hv : fitsByte v = true) (hc : fitsByte c = true) :
    decode (encode (.mulx v c)) = .ok (.mulx v c) := by
  have v_le : v ≤ 255 := of_decide_eq_true hv
  have c_le : c ≤ 255 := of_decide_eq_true hc
  have low : fieldLow (packWord 0x10 (c * 2 ^ 8 + v)) = v := by
    rw [fieldLow_packWord (by decide) (by omega)]
    omega
  have const : fieldC (packWord 0x10 (c * 2 ^ 8 + v)) = c := by
    rw [fieldC_packWord (by decide) (by omega)]
    omega
  refine decode_packWord (fmt := .bc) (by decide) (by omega) (fun opcode => ?_) (by simp only [rsvdField]; omega)
  simp only [opcodeRow, opcode, low, const]

theorem decode_encode_mulxpow {v c i : Nat} (hv : fitsByte v = true) (hc : fitsByte c = true) (hi : fitsByte i = true) :
    decode (encode (.mulxpow v c i)) = .ok (.mulxpow v c i) := by
  have v_le : v ≤ 255 := of_decide_eq_true hv
  have c_le : c ≤ 255 := of_decide_eq_true hc
  have i_le : i ≤ 255 := of_decide_eq_true hi
  have low : fieldLow (packWord 0x11 (i * 2 ^ 16 + c * 2 ^ 8 + v)) = v := by
    rw [fieldLow_packWord (by decide) (by omega)]
    omega
  have const : fieldC (packWord 0x11 (i * 2 ^ 16 + c * 2 ^ 8 + v)) = c := by
    rw [fieldC_packWord (by decide) (by omega)]
    omega
  have power : fieldI (packWord 0x11 (i * 2 ^ 16 + c * 2 ^ 8 + v)) = i := by
    rw [fieldI_packWord (by decide) (by omega)]
    omega
  refine decode_packWord (fmt := .bci) (by decide) (by omega) (fun opcode => ?_) (Nat.mod_one _)
  simp only [opcodeRow, opcode, low, const, power]

theorem decode_encode_ksGen {n : Nat} (hn : fitsCount n = true) : decode (encode (.ksGen n)) = .ok (.ksGen n) := by
  have bound : n ≤ 65535 := of_decide_eq_true hn
  have count : fieldCount (packWord 0x33 n) = n := by
    rw [fieldCount_packWord (by decide) (by omega)]
    omega
  refine decode_packWord (fmt := .cnt) (by decide) (by omega) (fun opcode => ?_) (by simp only [rsvdField]; omega)
  simp only [opcodeRow, opcode, count]

/-- Settles O1: the fields that a command's row reads from its word are the operands that were packed. A command without
operands has one word. -/
theorem decodeOfEncodeIsCommand : Obligations.DecodeOfEncodeIsCommand := by
  intro i wf
  cases i with
  | mulx v c =>
    obtain ⟨hv, hc⟩ := Bool.and_eq_true_iff.1 wf
    exact decode_encode_mulx hv hc
  | mulxpow v c i =>
    obtain ⟨hvc, hi⟩ := Bool.and_eq_true_iff.1 wf
    obtain ⟨hv, hc⟩ := Bool.and_eq_true_iff.1 hvc
    exact decode_encode_mulxpow hv hc hi
  | mulalpha v => exact decode_packWord_b8 .mulalpha (by decide) wf fun w opcode => by simp only [opcodeRow, opcode]
  | divalpha v => exact decode_packWord_b8 .divalpha (by decide) wf fun w opcode => by simp only [opcodeRow, opcode]
  | mask8 n => exact decode_packWord_b8 .mask8 (by decide) wf fun w opcode => by simp only [opcodeRow, opcode]
  | mul64xpow i => exact decode_packWord_b8 .mul64xpow (by decide) wf fun w opcode => by simp only [opcodeRow, opcode]
  | ksGen n => exact decode_encode_ksGen wf
  | _ => decide

/-! ### The words that the decoder refuses -/

/-- Settles O3: a word without a row has an unassigned opcode and no reserved bits; a word with one is refused for a reserved
bit or decodes. -/
theorem decoderRefusesExactly : Obligations.DecoderRefusesExactly := by
  intro w
  cases row : opcodeRow w with
  | none =>
    have unset : Spec.reservedBitSet w = false := reservedBitSet_of_no_row row
    simp [decode_of_no_row row, unassigned_eq, row, unset]
  | some entry =>
    obtain ⟨fmt, i⟩ := entry
    have set := reservedBitSet_of_row row
    by_cases clear : w &&& rsvdMask fmt = 0#32
    · simp [decode_of_row row clear, unassigned_eq, row, set, clear]
    · simp [decode_of_reserved_bit row clear, unassigned_eq, row, set, clear]

end Sys2Proof.Proofs
end

section
/-! What every command completes with (10_state.md R53, 20_memory.md R66): its error code, and an effect that writes only the
registers that R53 gives the command, but for SRESET, which resets them. From it the statements about completion and about what
each command leaves alone. -/

namespace Sys2Proof.Proofs

open Sys2Proof.Machine Sys2Proof.Laws

/-! ### Effects within R53 -/

/-- R53: from `s` to `t` only what the command `i` writes has changed; ERR and OVERRUN, which only a completion and a dropped
host write set, are kept. -/
structure WritesOnly (i : Instr) (s t : State) : Prop where
  control : keepsControl s t
  err : t.status.err = s.status.err
  overrun : t.status.overrun = s.status.overrun
  res : Spec.writesRes i = false → keepsRes s t
  engine : Spec.writesEngine i = false → keepsEngine s t
  engstat : Spec.writesEngstat i = false → keepsEngstat s t
  dbuf : Spec.writesDbuf i = false → keepsDbuf s t
  hash : Spec.writesHash i = false → keepsHash s t
  freg : i ≠ .fsmClk → keepsFreg s t
  context : i ≠ .f9Setup → keepsF9 s t ∧ t.engstat.f9valid = s.engstat.f9valid
  vok : i ≠ .f9Verify → keepsVok s t

theorem keepsControl_refl (s : State) : keepsControl s s :=
  ⟨rfl, rfl, rfl, rfl, rfl, rfl, rfl⟩

theorem writesOnly_refl (i : Instr) (s : State) : WritesOnly i s s where
  control := keepsControl_refl s
  err := rfl
  overrun := rfl
  res _ := rfl
  engine _ := rfl
  engstat _ := rfl
  dbuf _ _ := rfl
  hash _ := ⟨rfl, rfl⟩
  freg _ := rfl
  context _ := ⟨rfl, rfl⟩
  vok _ := rfl

theorem writesOnly_writeRes {i : Instr} (h : Spec.writesRes i = true) (v : DWord) (s : State) :
    WritesOnly i s (writeRes v s) :=
  { writesOnly_refl i s with res := by simp [h] }

theorem writesOnly_clocked (f : Word) (e : Engine) (s : State) : WritesOnly .fsmClk s (clocked f e s) :=
  { writesOnly_refl .fsmClk s with
    freg := by simp
    engine := by simp [Spec.writesEngine] }

/-- A new engine, with the lifecycle and PRIMED in ENGSTAT changed only by a command that writes ENGSTAT. -/
theorem writesOnly_withEngine {i : Instr} (h : Spec.writesEngine i = true) (e : Engine) {lifecycle : EngState} {primed : Bool}
    {s : State} (same : Spec.writesEngstat i = false → lifecycle = s.engstat.state ∧ primed = s.engstat.primed) :
    WritesOnly i s (withEngine e lifecycle primed s) :=
  { writesOnly_refl i s with
    engine := by simp [h]
    engstat := fun kept => by
      obtain ⟨rfl, rfl⟩ := same kept
      rfl }

/-- R167: a keystream request is a new engine and a new PRIMED. -/
theorem advanceKeystream_eq (n : Nat) (s : State) :
    advanceKeystream n s =
      withEngine (keystreamWords n s.eng s.engstat.primed).eng s.engstat.state
        (keystreamWords n s.eng s.engstat.primed).primed s := rfl

theorem writesOnly_advanceKeystream {i : Instr} (engine : Spec.writesEngine i = true) (engstat : Spec.writesEngstat i = true)
    (n : Nat) (s : State) : WritesOnly i s (advanceKeystream n s) := by
  rw [advanceKeystream_eq]
  exact writesOnly_withEngine engine _ (by simp [engstat])

theorem writesOnly_memWrite {i : Instr} {s u : State} (h : WritesOnly i s u) (dbuf : Spec.writesDbuf i = true) (a : Nat)
    (bs : List Byte) : WritesOnly i s (memWrite a bs u) :=
  { h with dbuf := by simp [dbuf] }

theorem writesOnly_deriveContext (k iv : Quad) (s : State) :
    WritesOnly .f9Setup s (deriveContext (runInitialize k iv s)) :=
  { writesOnly_refl .f9Setup s with
    engine := by simp [Spec.writesEngine]
    engstat := by simp [Spec.writesEngstat]
    context := by simp }

theorem writesOnly_writeHash {i : Instr} (h : Spec.writesHash i = true) (s : State) : WritesOnly i s (writeHash s) :=
  { writesOnly_refl i s with hash := by simp [h] }

theorem writesOnly_writeVok {s u : State} (h : WritesOnly .f9Verify s u) (v : Bool) : WritesOnly .f9Verify s (writeVok v u) :=
  { h with vok := by simp }

/-! ### What every command completes with -/

/-- R66, R53: `o` is the completion of an effect that R53 allows the command `i`, or of SRESET's. -/
def completesAs (i : Instr) (s : State) (o : Host.Outcome State Fault Refusal) : Prop :=
  ∃ code u, o = .next (complete code u) ∧ (WritesOnly i s u ∨ i = .sreset ∧ u = resetRegisters s)

theorem completesAs_finish {i : Instr} {s u : State} (h : WritesOnly i s u) : completesAs i s (finish u) :=
  ⟨.ok, u, rfl, .inl h⟩

theorem completesAs_check {i : Instr} {p : Prop} [Decidable p] {code : ErrCode} {s : State}
    {o : Host.Outcome State Fault Refusal} (passed : completesAs i s o) :
    completesAs i s (if p then raiseError code s else o) := by
  split
  next => exact ⟨code, s, rfl, .inl (writesOnly_refl i s)⟩
  next => exact passed

theorem exec_completesAs (i : Instr) (s : State) : completesAs i s (exec i s) := by
  cases i with
  | nop => exact completesAs_finish (writesOnly_refl .nop s)
  | sreset => exact ⟨.ok, _, rfl, .inr ⟨rfl, rfl⟩⟩
  | mask8 n => exact completesAs_check (completesAs_finish (writesOnly_writeRes rfl _ s))
  | fsmClk => exact completesAs_finish (writesOnly_clocked _ _ s)
  | lfsrClkInit | lfsrClkKs => exact completesAs_finish (writesOnly_withEngine rfl _ fun _ => ⟨rfl, rfl⟩)
  | engLoad | engInit | f8Setup => exact completesAs_finish (writesOnly_withEngine rfl _ (by simp [Spec.writesEngstat]))
  | ksWord =>
    rw [exec_ksWord]
    have advanced : WritesOnly .ksWord s (advanceKeystream 1 s) := writesOnly_advanceKeystream rfl rfl 1 s
    exact completesAs_check (completesAs_finish { advanced with res := by simp [Spec.writesRes] })
  | ksGen n =>
    exact completesAs_check (completesAs_check (completesAs_finish
      (writesOnly_memWrite (writesOnly_advanceKeystream rfl rfl n s) rfl _ _)))
  | f8 =>
    exact completesAs_check (completesAs_check (completesAs_check (completesAs_finish
      (writesOnly_memWrite (writesOnly_advanceKeystream rfl rfl _ s) rfl _ _))))
  | f9Setup => exact completesAs_finish (writesOnly_deriveContext _ _ s)
  | f9Hash => exact completesAs_check (completesAs_check (completesAs_finish (writesOnly_writeHash rfl s)))
  | f9Verify =>
    exact completesAs_check (completesAs_check (completesAs_finish (writesOnly_writeVok (writesOnly_writeHash rfl s) _)))
  | _ => exact completesAs_finish (writesOnly_writeRes rfl _ s)

/-- The same for a command word, which R90 lets end with an error of the decoder. -/
theorem completion_completesAs (w : Word) (s : State) :
    ∃ code u, completion w s = .next (complete code u) ∧
      (u = s ∨ ∃ i, decode w = .ok i ∧ (WritesOnly i s u ∨ i = .sreset ∧ u = resetRegisters s)) := by
  unfold completion
  cases decode w with
  | ok i =>
    obtain ⟨code, u, run, effect⟩ := exec_completesAs i s
    exact ⟨code, u, run, .inr ⟨i, rfl, effect⟩⟩
  | error e => exact ⟨decodeErrCode e, s, rfl, .inl rfl⟩

/-! ### The statements about completion and about what commands leave alone -/

/-- Settles O58: the completion of an effect writes STATUS besides, and there keeps VOK. -/
theorem commandsWriteOnlyTheirRegisters : Obligations.CommandsWriteOnlyTheirRegisters := by
  intro i s t run other
  obtain ⟨code, u, completed, kept | ⟨sreset, -⟩⟩ := exec_completesAs i s
  · obtain rfl : complete code u = t := Host.Outcome.next.inj (completed.symm.trans run)
    exact ⟨kept.control, kept.res, kept.engine, kept.engstat, kept.dbuf, kept.hash, kept.freg, kept.context, kept.vok⟩
  · exact absurd sreset other

/-- Settles O9: the completion sets DONE and consumes PENDING, and to the ERR and OVERRUN that the effect keeps it adds the
error of this command. -/
theorem everyCommandWordCompletes : Obligations.EveryCommandWordCompletes := by
  intro w s
  obtain ⟨code, u, completed, effect⟩ := completion_completesAs w s
  refine ⟨complete code u, completed, rfl, rfl, fun other => ?_⟩
  obtain ⟨overrun, err⟩ : u.status.overrun = s.status.overrun ∧ u.status.err = s.status.err := by
    obtain rfl | ⟨i, decoded, kept | ⟨rfl, -⟩⟩ := effect
    · exact ⟨rfl, rfl⟩
    · exact ⟨kept.overrun, kept.err⟩
    · exact absurd decoded other
  simp [overrun, err]

end Sys2Proof.Proofs
end

section
/-! One step of the machine, event by event (20_memory.md R60 to R72), the isolation of a running command from the host, and the
polls of a WAIT (30_encoding.md R95); from these the statements about the step, about host reads and about WAIT. -/

namespace Sys2Proof.Proofs

open Sys2Proof.Machine Sys2Proof.Laws

/-! ### The unit's turn -/

theorem step_of_no_event {s : State} (h : s.host = []) : step s = unitStep s := by
  simp [step, h]

theorem step_of_unitTurn {s : State} {rest : List HostEvent} (h : s.host = .unitTurn :: rest) :
    step s = unitStep { s with host := rest } := by
  simp [step, h]

theorem unitStep_of_pending {s : State} {w : Word} (h : s.pending = some w) : unitStep s = completion w s := by
  simp [unitStep, fetchCommand, h]

theorem unitStep_of_quiescent {s : State} (h : s.pending = none) : unitStep s = .next s := by
  simp [unitStep, fetchCommand, h]

theorem completion_of_decode {w : Word} {i : Instr} (h : decode w = .ok i) (s : State) : completion w s = exec i s := by
  simp [completion, h]

/-- R90, R233: a word that the decoder refuses completes with the decoder's error and changes nothing else. -/
theorem completion_of_refused {w : Word} {e : DecodeError} (h : decode w = .error e) (s : State) :
    completion w s = .next (afterError (decodeErrCode e) s) := by
  rw [← raiseError_eq (decodeErrCode_ne_ok e)]
  simp [completion, h]

/-- Settles O5: both forms of the unit's turn are the completion of the latched word, which the event list is no part of. -/
theorem stepRunsDecodedCommand : Obligations.StepRunsDecodedCommand := by
  intro s w i pending decoded
  refine ⟨fun quiet => ?_, fun rest turn => ?_⟩
  · rw [step_of_no_event quiet, unitStep_of_pending pending, completion_of_decode decoded]
  · rw [step_of_unitTurn turn, unitStep_of_pending (s := { s with host := rest }) pending, completion_of_decode decoded]

/-- Settles O6: a refused word completes with the decoder's error; with no word latched the turn keeps the state. -/
theorem stepWithoutCommand : Obligations.StepWithoutCommand := by
  intro s
  refine ⟨fun quiescent => ⟨fun quiet => ?_, fun rest turn => ?_⟩, ?_⟩
  · rw [step_of_no_event quiet, unitStep_of_quiescent quiescent]
  · rw [step_of_unitTurn turn, unitStep_of_quiescent (s := { s with host := rest }) quiescent]
  · intro w e pending refused code
    have same : code = decodeErrCode e := by cases e <;> rfl
    rw [same]
    refine ⟨fun quiet => ?_, fun rest turn => ?_⟩
    · rw [step_of_no_event quiet, unitStep_of_pending pending, completion_of_refused refused]
    · rw [step_of_unitTurn turn, unitStep_of_pending (s := { s with host := rest }) pending, completion_of_refused refused]

/-! ### Host accesses as steps -/

theorem busOffset_of_inside {c : Config} {addr : Nat} (h : c.base ≤ addr ∧ addr < c.base + 0x20000) :
    busOffset c addr = some (addr - c.base) :=
  if_pos h

theorem busOffset_of_outside {c : Config} {addr : Nat} (h : ¬(c.base ≤ addr ∧ addr < c.base + 0x20000)) :
    busOffset c addr = none :=
  if_neg h

theorem step_of_read {s : State} {addr size off : Nat} {rest : List HostEvent} (event : s.host = .read addr size :: rest)
    (inside : busOffset s.cfg addr = some off) : step s = .next (hostRead off size { s with host := rest }) := by
  simp [step, event, inside]

theorem step_of_write {s : State} {addr size off : Nat} {w : Word} {rest : List HostEvent}
    (event : s.host = .write addr size w :: rest) (inside : busOffset s.cfg addr = some off) :
    step s = .next (hostWrite off size w { s with host := rest }) := by
  simp [step, event, inside]

theorem step_of_read_outside {s : State} {addr size : Nat} {rest : List HostEvent} (event : s.host = .read addr size :: rest)
    (outside : busOffset s.cfg addr = none) : step s = .fault (.outsideWindow addr) := by
  simp [step, event, outside]

theorem step_of_write_outside {s : State} {addr size : Nat} {w : Word} {rest : List HostEvent}
    (event : s.host = .write addr size w :: rest) (outside : busOffset s.cfg addr = none) :
    step s = .fault (.outsideWindow addr) := by
  simp [step, event, outside]

/-- Settles O7: the access is made exactly where the address has an offset in the window. -/
theorem stepPerformsHostAccess : Obligations.StepPerformsHostAccess := by
  intro s addr size rest
  by_cases inside : s.cfg.base ≤ addr ∧ addr < s.cfg.base + 0x20000
  · have offset := busOffset_of_inside inside
    simp only [inside, and_self, ↓reduceIte]
    exact ⟨fun event => step_of_read event offset, fun w event => step_of_write event offset⟩
  · have nowhere := busOffset_of_outside inside
    simp only [inside, ↓reduceIte]
    exact ⟨fun event => step_of_read_outside event nowhere, fun w event => step_of_write_outside event nowhere⟩

/-! ### Host reads -/

theorem readableWhileBusy_iff (r : Reg) : readableWhileBusy r = true ↔ r = .id ∨ r = .ctrl ∨ r = .status ∨ r = .cmd := by
  simp [readableWhileBusy, or_assoc]

/-- R52, R23: a read of a register that answers, either because the unit is idle or because BUSY = 1 does not guard it. -/
theorem hostRead_reg_answered {r : Reg} {s : State} (h : busy s = false ∨ readableWhileBusy r = true) :
    hostRead (regOffset r) 32 s = respond (.data (readReg r s)) s := by
  rcases h with h | h <;> simp [hostRead, targetOf_regOffset, h]

/-- R52, U1: a read of a register that BUSY = 1 leaves open. -/
theorem hostRead_reg_open {r : Reg} {s : State} (hb : busy s = true) (hr : readableWhileBusy r = false) :
    hostRead (regOffset r) 32 s = respondOpen s := by
  simp [hostRead, targetOf_regOffset, hb, hr]

theorem hostRead_dbufWord_open {s : State} {j : Nat} (hb : busy s = true) (hj : 4 * j < s.cfg.dbufSize) :
    hostRead (0x10000 + 4 * j) 32 s = respondOpen s := by
  simp [hostRead, targetOf_dbufOffset hj, hb]

theorem ctrlWord_eq_ite (s : State) : ctrlWord s = if s.ctrl.irqEn then 1 else 0 := by
  rw [ctrlWord]
  cases s.ctrl.irqEn <;> rfl

/-- Settles O12: ID, CTRL, STATUS and CMD are the registers that BUSY = 1 does not guard against reads. -/
theorem busyReadIsUnspecified : Obligations.BusyReadIsUnspecified := by
  intro s hb
  refine ⟨fun r hid hctrl hstatus hcmd => ?register, fun j hj => hostRead_dbufWord_open hb hj, ?id, ?ctrl, ?status, ?busy, ?cmd⟩
  case register =>
    have guarded : readableWhileBusy r = false := by
      rw [Bool.eq_false_iff, ne_eq, readableWhileBusy_iff]
      simp [hid, hctrl, hstatus, hcmd]
    exact hostRead_reg_open hb guarded
  case id => exact hostRead_reg_answered (r := .id) (.inr rfl)
  case ctrl =>
    rw [← ctrlWord_eq_ite]
    exact hostRead_reg_answered (r := .ctrl) (.inr rfl)
  case status => exact hostRead_reg_answered (r := .status) (.inr rfl)
  case busy => rw [statusWord_getLsbD_busy, hb]
  case cmd => exact hostRead_reg_answered (r := .cmd) (.inr rfl)

/-- Settles O13: a read is either answered or left open, and both change only the answer and the draws. -/
theorem readsHaveNoSideEffect : Obligations.ReadsHaveNoSideEffect := by
  intro off size s
  obtain ⟨r, answered⟩ | unanswered := hostRead_cases off size s
  · rw [answered]
    rfl
  · rw [unanswered]
    rfl

/-! ### A running command is out of the host's reach (R68, R72) -/

/-- What a running command reads or has written. -/
def keepsCommand (s t : State) : Prop :=
  t.pending = s.pending ∧ t.opr = s.opr ∧ t.engstat = s.engstat ∧ t.cfg = s.cfg ∧ keepsRes s t ∧ keepsHash s t ∧
    keepsFreg s t ∧ keepsF9 s t ∧ keepsEngine s t ∧ keepsVok s t ∧ t.status.errcode = s.status.errcode ∧ keepsDbuf s t

theorem hostRead_keepsCommand (off size : Nat) (s : State) : keepsCommand s (hostRead off size s) := by
  obtain ⟨r, answered⟩ | unanswered := hostRead_cases off size s
  · rw [answered]
    simp [keepsCommand, keepsRes, keepsHash, keepsFreg, keepsF9, keepsEngine, keepsVok, keepsDbuf, dbufByte]
  · rw [unanswered]
    simp [keepsCommand, keepsRes, keepsHash, keepsFreg, keepsF9, keepsEngine, keepsVok, keepsDbuf, dbufByte]

/-- R68: CTRL and STATUS's W1C bits are no part of a command. -/
theorem writeReg_keepsCommand {r : Reg} (h : writableWhileBusy r = true) (w : Word) (s : State) :
    keepsCommand s (respond .accepted (writeReg r w s)) := by
  obtain rfl | rfl := (writableWhileBusy_iff r).1 h <;>
    simp [writeReg, keepsCommand, keepsRes, keepsHash, keepsFreg, keepsF9, keepsEngine, keepsVok, keepsDbuf, dbufByte]

theorem setOverrun_keepsCommand (s : State) : keepsCommand s (respond .accepted (setOverrun s)) := by
  simp [keepsCommand, keepsRes, keepsHash, keepsFreg, keepsF9, keepsEngine, keepsVok, keepsDbuf, dbufByte]

theorem respond_keepsCommand (r : Response) (s : State) : keepsCommand s (respond r s) := by
  simp [keepsCommand, keepsRes, keepsHash, keepsFreg, keepsF9, keepsEngine, keepsVok, keepsDbuf, dbufByte]

theorem hostWrite_keepsCommand (off size : Nat) (w : Word) {s : State} (hb : busy s = true) :
    keepsCommand s (hostWrite off size w s) := by
  obtain refused | ⟨-, dropped⟩ | ignored | ⟨r, -, idle | free, taken⟩ | ⟨j, -, idle, -⟩ := hostWrite_cases off size w s
  · rw [refused]
    exact respond_keepsCommand _ s
  · rw [dropped]
    exact setOverrun_keepsCommand s
  · rw [ignored]
    exact respond_keepsCommand _ s
  · rw [hb] at idle
    cases idle
  · rw [taken]
    exact writeReg_keepsCommand free w s
  · rw [hb] at idle
    cases idle

/-- Settles O22: the step is a host read or a host write, from the state whose traffic has lost that event. -/
theorem hostCannotReachRunningCommand : Obligations.HostCannotReachRunningCommand := by
  intro s t e rest hb event notTurn notReset run
  obtain ⟨quiet, -⟩ | ⟨_, turn, -⟩ | ⟨_, reset, -⟩ | ⟨_, size, rest, off, -, -, rfl⟩ | ⟨_, size, w, rest, off, -, -, rfl⟩ :=
    step_cases run
  · simp [quiet] at event
  · rw [event] at turn
    cases turn
    exact absurd rfl notTurn
  · rw [event] at reset
    cases reset
    exact absurd rfl notReset
  · exact hostRead_keepsCommand off size { s with host := rest }
  · exact hostWrite_keepsCommand off size w (s := { s with host := rest }) hb

/-! ### The polls of a WAIT -/

/-- The state after a poll of STATUS: the answer, and one event fewer. -/
def polled (rest : List HostEvent) (s : State) : State := respond (.data (statusWord s)) { s with host := rest }

/-- STATUS shows neither the traffic nor the port's answers, so a second poll sees what the first one saw. -/
theorem polled_polled (rest rest' : List HostEvent) (s : State) : polled rest' (polled rest s) = polled rest' s := rfl

theorem regOffset_lt_window (r : Reg) : regOffset r < 0x20000 := by
  cases r <;> decide

/-- R94: a register access is made at the register's offset. -/
theorem busOffset_regOffset (c : Config) (r : Reg) : busOffset c (c.base + regOffset r) = some (regOffset r) := by
  have bound := regOffset_lt_window r
  rw [busOffset_of_inside (by omega), Nat.add_sub_cancel_left]

theorem step_of_poll {s : State} {rest : List HostEvent} (h : s.host = readEvent s.cfg .status :: rest) :
    step s = .next (polled rest s) := by
  have answer : hostRead (regOffset .status) 32 { s with host := rest } = polled rest s := hostRead_reg_answered (.inr rfl)
  rw [step_of_read h (busOffset_regOffset _ _), answer]

theorem runSteps_add {s t : State} (m n : Nat) (h : runSteps m s = .next t) : runSteps (m + n) s = runSteps n t := by
  induction m generalizing s with
  | zero =>
    cases h
    rw [Nat.zero_add]
  | succ m ih =>
    cases first : step s with
    | next u =>
      rw [runSteps_succ first] at h
      rw [Nat.add_right_comm, runSteps_succ first, ih h]
    | fault f => simp [runSteps, first] at h
    | refused r => simp [runSteps, first] at h

/-- Polls in a row: each sees the same STATUS, and after the last one the rest of the traffic stands. -/
theorem runSteps_polls (k : Nat) {s : State} {rest : List HostEvent}
    (h : s.host = List.replicate (k + 1) (readEvent s.cfg .status) ++ rest) :
    runSteps (k + 1) s = .next (polled rest s) := by
  induction k generalizing s with
  | zero =>
    have one : s.host = readEvent s.cfg .status :: rest := h
    rw [runSteps_succ (step_of_poll one), runSteps_zero]
  | succ k ih =>
    rw [List.replicate_succ, List.cons_append] at h
    rw [runSteps_succ (step_of_poll h), ih rfl, polled_polled]

/-- The first `k` of `n` polls see the running command, whatever traffic follows. -/
theorem runSteps_some_polls {n k : Nat} (hk : k < n) {s : State} {rest : List HostEvent}
    (h : s.host = List.replicate n (readEvent s.cfg .status) ++ rest) :
    ∃ rest', runSteps (k + 1) s = .next (polled rest' s) := by
  have split : s.host = List.replicate (k + 1) (readEvent s.cfg .status) ++
      (List.replicate (n - (k + 1)) (readEvent s.cfg .status) ++ rest) := by
    rw [h, ← List.append_assoc, ← List.replicate_add, show k + 1 + (n - (k + 1)) = n by omega]
  exact ⟨_, runSteps_polls k split⟩

/-- R66: the completion of the latched word ends BUSY, and the platform and the traffic are no part of it. -/
theorem completion_idle (w : Word) (s : State) :
    ∃ t, completion w s = .next t ∧ busy t = false ∧ t.cfg = s.cfg ∧ t.host = s.host := by
  obtain ⟨code, u, completed, effect⟩ := completion_completesAs w s
  refine ⟨complete code u, completed, rfl, ?_⟩
  obtain rfl | ⟨i, -, kept | ⟨-, rfl⟩⟩ := effect
  · exact ⟨rfl, rfl⟩
  · obtain ⟨-, -, cfg, host, -⟩ := kept.control
    exact ⟨cfg, host⟩
  · exact ⟨rfl, rfl⟩

/-- The unit's turn and one poll end a WAIT. -/
theorem runSteps_turn_and_poll {s : State} (hb : busy s = true) (h : s.host = [.unitTurn, readEvent s.cfg .status]) :
    ∃ t, runSteps 2 s = .next (polled [] t) ∧ busy t = false := by
  obtain ⟨w, pending⟩ := Option.isSome_iff_exists.1 hb
  obtain ⟨t, completed, idle, cfg, host⟩ := completion_idle w { s with host := [readEvent s.cfg .status] }
  have turn : step s = .next t := by
    rw [step_of_unitTurn h, unitStep_of_pending (s := { s with host := [readEvent s.cfg .status] }) pending, completed]
  have poll : t.host = [readEvent t.cfg .status] := by rw [host, cfg]
  exact ⟨t, by rw [runSteps_succ turn, runSteps_succ (step_of_poll poll), runSteps_zero], idle⟩

/-- All the events of a WAIT on a running unit. -/
theorem runSteps_wait {s : State} (hb : busy s = true) {n : Nat}
    (h : s.host = List.replicate n (readEvent s.cfg .status) ++ [.unitTurn, readEvent s.cfg .status]) :
    ∃ t, runSteps (n + 2) s = .next (polled [] t) ∧ busy t = false := by
  cases n with
  | zero => exact runSteps_turn_and_poll hb h
  | succ n =>
    obtain ⟨t, run, idle⟩ :=
      runSteps_turn_and_poll (s := polled [.unitTurn, readEvent s.cfg .status] s) hb rfl
    exact ⟨t, by rw [runSteps_add _ _ (runSteps_polls n h), run], idle⟩

theorem filter_wait_events (c : Config) (n : Nat) :
    ((List.replicate n (readEvent c .status) ++ [.unitTurn, readEvent c .status]).filter (· ≠ .unitTurn)).length = n + 1 := by
  simp [readEvent]

/-- Settles O23: the polls before the unit's turn see BUSY = 1, and the turn leaves the unit idle for the last one. -/
theorem waitPollsUntilIdle : Obligations.WaitPollsUntilIdle := by
  rintro s ⟨_ | n, drawn⟩ running events
  case none =>
    have poll : s.host = [readEvent s.cfg .status] := events
    refine ⟨fun k hk => absurd hk (Nat.not_lt_zero k), by rw [poll]; rfl, polled [] s, statusWord s, ?_, rfl, running, rfl, ?_⟩
    · rw [poll]
      exact runSteps_polls 0 poll
    · rw [statusWord_getLsbD_busy, running]
      rfl
  case some =>
    have polls : s.host = List.replicate n (readEvent s.cfg .status) ++ [.unitTurn, readEvent s.cfg .status] := events
    refine ⟨fun k hk => ?_, ?_, ?_⟩
    · obtain ⟨rest, run⟩ := runSteps_some_polls hk polls
      exact ⟨_, statusWord s, run, rfl, by rw [statusWord_getLsbD_busy, running]; rfl, rfl⟩
    · rw [polls, filter_wait_events]
      rfl
    · obtain ⟨t, run, idle⟩ := runSteps_wait running polls
      have length : s.host.length = n + 2 := by rw [polls]; simp
      exact ⟨polled [] t, statusWord t, by rw [length, run], rfl, idle, rfl, by rw [statusWord_getLsbD_busy, idle]⟩

end Sys2Proof.Proofs
end

section
/-! The register map (10_state.md R22 to R45), register by register: STATUS and ENGSTAT as sums of their fields, what a register
reads after a write of any register, and what power-on leaves in each; from these the statements about the map, about writes of
registers and of reserved offsets, and about reset. -/

namespace Sys2Proof.Proofs

open Sys2Proof.Machine Sys2Proof.Laws

/-! ### STATUS and ENGSTAT as sums of their fields -/

/-- R26: the fields of STATUS do not overlap, so packing them is adding them, each at its bit. -/
theorem statusFields_sum (code : ErrCode) : ∀ busy done err overrun vok : Bool,
    (if busy then 0x001 else 0) + (if done then 0x002 else 0) + (if err then 0x004 else 0) +
        (if overrun then 0x008 else 0) + 0x010 * Spec.errorNumber code + (if vok then 0x100 else 0) =
      0#23 ++ BitVec.ofBool vok ++ code.code ++ BitVec.ofBool overrun ++ BitVec.ofBool err ++ BitVec.ofBool done ++
        BitVec.ofBool busy := by
  cases code <;> decide

/-- R28: the same for ENGSTAT. -/
theorem engstatFields_sum (state : EngState) : ∀ primed f9valid : Bool,
    Spec.stateNumber state + (if primed then 0x4 else 0) + (if f9valid then 0x8 else 0) =
      0#28 ++ BitVec.ofBool f9valid ++ BitVec.ofBool primed ++ state.code := by
  cases state <;> decide

theorem statusValue_eq (s : State) : Spec.statusValue s = statusWord s :=
  statusFields_sum s.status.errcode (busy s) s.status.done s.status.err s.status.overrun s.status.vok

theorem engstatValue_eq (s : State) : Spec.engstatValue s = engstatWord s :=
  engstatFields_sum s.engstat.state s.engstat.primed s.engstat.f9valid

/-! ### The map as a list -/

theorem mem_allRegs (r : Reg) : r ∈ allRegs :=
  List.mem_of_find?_eq_some (regAt_regOffset r)

/-- R22: no two registers share an offset, since the register is read back from it. -/
theorem regOffset_injective : Function.Injective regOffset := by
  intro r r' same
  have register : some r = some r' := by rw [← regAt_regOffset, ← regAt_regOffset, same]
  exact Option.some.inj register

theorem allRegs_nodup : allRegs.Nodup := by
  decide

/-- R22: the spec's table of reads lists every register of the model at its offset, with the word it reads. -/
theorem registerReads_eq (s : State) : Spec.registerReads s = allRegs.map fun r => (regOffset r, readReg r s) := by
  rw [Spec.registerReads, Spec.controlReads, ← ctrlWord_eq_ite, statusValue_eq, engstatValue_eq]
  rfl

/-- Settles O16: each entry of the table is a register's, and an idle unit answers its read. -/
theorem registerMapReads : Obligations.RegisterMapReads := by
  intro s idle
  have answered (r : Reg) : hostRead (regOffset r) 32 s = respond (.data (readReg r s)) s :=
    hostRead_reg_answered (.inl idle)
  rw [registerReads_eq]
  refine ⟨fun p listed => ?_, fun r => ⟨answered r, ?_⟩, ?_⟩
  · obtain ⟨r, -, rfl⟩ := List.mem_map.1 listed
    exact answered r
  · exact List.mem_map.2 ⟨r, mem_allRegs r, rfl⟩
  · rw [List.map_map]
    exact allRegs_nodup.map regOffset_injective

/-! ### The halves of a register pair (R39, R262) -/

@[simp] theorem loHalf_withLo (d : DWord) (w : Word) : loHalf (withLo d w) = w :=
  BitVec.extractLsb'_append_eq_right

@[simp] theorem hiHalf_withLo (d : DWord) (w : Word) : hiHalf (withLo d w) = hiHalf d :=
  BitVec.extractLsb'_append_eq_left

@[simp] theorem loHalf_withHi (d : DWord) (w : Word) : loHalf (withHi d w) = loHalf d :=
  BitVec.extractLsb'_append_eq_right

@[simp] theorem hiHalf_withHi (d : DWord) (w : Word) : hiHalf (withHi d w) = w :=
  BitVec.extractLsb'_append_eq_left

/-! ### A read after a write -/

theorem and_ones (w : Word) : w &&& 0xFFFFFFFF = w :=
  BitVec.and_allOnes

/-- R32, R33: a field of `n` bits holds a word's bits under a mask of `n` ones. -/
theorem setWidth_setWidth_eq_and (n : Nat) (w : Word) :
    (w.setWidth n).setWidth 32 = w &&& (BitVec.allOnes n).setWidth 32 := by
  refine BitVec.eq_of_getLsbD_eq fun i hi => ?_
  simp [hi, Bool.and_comm]

theorem ctrlWord_writeCtrl (w : Word) (s : State) : ctrlWord (writeCtrl w s) = w &&& 1 := by
  rw [ctrlWord_eq_ite, writeCtrl_ctrl, BitVec.ofNat_eq_ofNat, BitVec.and_one_eq_setWidth_ofBool_getLsbD]
  cases w.getLsbD 0 <;> rfl

/-- R23: what each register reads after a write of a plain RW register. -/
theorem readReg_writeReg {r : Reg} {m : Word} (plain : Spec.plainMask r = some m) (r' : Reg) (w : Word) (s : State) :
    readReg r' (writeReg r w s) = if r' = r then w &&& m else readReg r' s := by
  cases r with
  | id | status | cmd | engstat | maci | resLo | resHi | evalLo | evalHi => cases plain
  | ctrl =>
    cases plain
    cases r' with
    | ctrl => exact ctrlWord_writeCtrl w s
    | _ => rfl
  | bearer =>
    cases plain
    cases r' with
    | bearer => exact setWidth_setWidth_eq_and 5 w
    | _ => rfl
  | direction =>
    cases plain
    cases r' with
    | direction => exact setWidth_setWidth_eq_and 1 w
    | _ => rfl
  | lenLo | lenHi | opaLo | opaHi | opbLo | opbHi | opcLo | opcHi | pLo | pHi | qLo | qHi =>
    cases plain
    rw [and_ones]
    cases r' <;> simp [readReg, writeReg, ctrlWord, statusWord, engstatWord, busy]
  | _ =>
    cases plain
    rw [and_ones]
    cases r' <;> rfl

/-- R22: the plain RW registers, in the order of the map. -/
def plainRegs : List Reg := allRegs.filter fun r => (Spec.plainMask r).isSome

theorem mem_plainRegs {r : Reg} {m : Word} (plain : Spec.plainMask r = some m) : r ∈ plainRegs :=
  List.mem_filter.2 ⟨mem_allRegs r, by rw [plain]; rfl⟩

/-- R22, R23: the spec's table of writes lists every plain RW register at its offset, with the state after its write. -/
theorem registerWrites_eq (w : Word) (s : State) :
    Spec.registerWrites w s = plainRegs.map fun r => (regOffset r, writeReg r w s) := rfl

theorem readReg_respond (r : Reg) (a : Response) (s : State) : readReg r (respond a s) = readReg r s := by
  cases r <;> rfl

/-- R23: a write of a plain RW register issues no command and writes no byte of DBUF. -/
theorem writeReg_plain_frame {r : Reg} {m : Word} (plain : Spec.plainMask r = some m) (w : Word) (s : State) :
    (writeReg r w s).pending = s.pending ∧ keepsDbuf s (writeReg r w s) := by
  cases r with
  | cmd => cases plain
  | _ => exact ⟨rfl, fun _ => rfl⟩

/-- Settles O17: an idle unit takes the write, and the register then reads the implemented bits of the word. -/
theorem registerReadAfterWrite : Obligations.RegisterReadAfterWrite := by
  intro s w idle
  have taken (r : Reg) : hostWrite (regOffset r) 32 w s = respond .accepted (writeReg r w s) :=
    hostWrite_reg_taken (.inl idle) w
  refine ⟨fun p listed => ?table, fun r m plain => ?plain, fun off readOnly => ?readOnly⟩
  case table =>
    rw [registerWrites_eq] at listed
    obtain ⟨r, -, rfl⟩ := List.mem_map.1 listed
    exact taken r
  case plain =>
    obtain ⟨pending, dbuf⟩ := writeReg_plain_frame plain w s
    rw [taken, readReg_respond, readReg_writeReg plain, if_pos rfl]
    refine ⟨?_, rfl, fun r' other => ?_, pending, dbuf⟩
    · rw [registerWrites_eq, List.map_map]
      exact List.mem_map.2 ⟨r, mem_plainRegs plain, rfl⟩
    · rw [readReg_respond, readReg_writeReg plain, if_neg other]
  case readOnly =>
    simp only [List.mem_cons, List.not_mem_nil, or_false] at readOnly
    obtain rfl | rfl | rfl | rfl | rfl | rfl := readOnly
    · exact taken .id
    · exact taken .maci
    · exact taken .resLo
    · exact taken .resHi
    · exact taken .evalLo
    · exact taken .evalHi

/-- Settles O20: an idle unit takes the write of CMD, which latches the word. -/
theorem cmdWriteIssuesCommand : Obligations.CmdWriteIssuesCommand := by
  intro s w idle
  have taken : hostWrite 0x00C 32 w s = respond .accepted (issueCommand w s) :=
    hostWrite_reg_taken (r := .cmd) (.inl idle) w
  rw [taken]
  exact ⟨rfl, rfl⟩

/-! ### ENGSTAT (R28) -/

/-- A mask of four bits sees the low four bits of a word alone. -/
theorem and_lowMask (w : Word) (m : BitVec 4) : w &&& m.setWidth 32 = (w.setWidth 4 &&& m).setWidth 32 := by
  refine BitVec.eq_of_getLsbD_eq fun i hi => ?_
  by_cases low : i < 4
  · simp [hi, low]
  · have above : m.getLsbD i = false := BitVec.getLsbD_of_ge m i (Nat.not_lt.1 low)
    simp [low, above]

/-- R28, on the low four bits of the written word: PRIMED and F9VALID are stored, and STATE unless it is 3. -/
theorem engstatFields_written (old : EngState) : ∀ (primed f9valid : Bool) (x : BitVec 4),
    0#28 ++ BitVec.ofBool (x.getLsbD 3) ++ BitVec.ofBool (x.getLsbD 2) ++
        (engStateWarl old (BitVec.extractLsb' 0 2 x)).code =
      (x &&& 0xC).setWidth 32 ||| (if (x &&& 3).setWidth 32 = (3 : Word) then
        (0#28 ++ BitVec.ofBool f9valid ++ BitVec.ofBool primed ++ old.code) &&& 3 else (x &&& 3).setWidth 32) := by
  cases old <;> decide

/-- R28: ENGSTAT as a word after a host write. -/
theorem engstatWord_writeEngstat (w : Word) (s : State) :
    engstatWord (writeEngstat w s) = (w &&& 0xC) ||| (if w &&& 3 = 3 then engstatWord s &&& 3 else w &&& 3) := by
  have written := engstatFields_written s.engstat.state s.engstat.primed s.engstat.f9valid (w.setWidth 4)
  have field : BitVec.extractLsb' 0 2 (w.setWidth 4) = BitVec.extractLsb' 0 2 w := by
    refine BitVec.eq_of_getLsbD_eq fun i hi => ?_
    have low : i < 4 := by omega
    simp [low]
  rw [← and_lowMask, ← and_lowMask, field, BitVec.getLsbD_setWidth, BitVec.getLsbD_setWidth] at written
  exact written

/-- Settles O18: an idle unit takes the write, and the written ENGSTAT as a word is R28's. -/
theorem engstatWriteIsWarl : Obligations.EngstatWriteIsWarl := by
  intro s w idle
  exact ⟨(writeEngstat w s).engstat, hostWrite_reg_taken (r := .engstat) (.inl idle) w, engstatWord_writeEngstat w s⟩

/-! ### Reserved offsets (R50, R61) -/

theorem regAt_eq_none {off : Nat} (h : ∀ r, regOffset r ≠ off) : regAt off = none := by
  simp [regAt, List.find?_eq_none, h]

theorem targetOf_reserved {c : Config} {off : Nat}
    (h : (off < 0x10000 ∧ ∀ r, regOffset r ≠ off) ∨ 0x10000 + c.dbufSize ≤ off) : targetOf c off = .reserved := by
  obtain ⟨inside, free⟩ | beyond := h
  · have window : off < dbufWindow := inside
    simp [targetOf, window, regAt_eq_none free]
  · have notRegister : ¬ off < dbufWindow := by simp only [dbufWindow]; omega
    have notDbuf : ¬ off < dbufWindow + c.dbufSize := Nat.not_lt.2 beyond
    simp [targetOf, notRegister, notDbuf]

/-- Settles O19: the address map names nothing at such an offset. -/
theorem reservedOffsetsReadZero : Obligations.ReservedOffsetsReadZero := by
  intro s off w idle aligned reserved
  have good : goodAccess off 32 = true := (goodAccess_iff off 32).2 ⟨rfl, aligned⟩
  have target := targetOf_reserved reserved
  refine ⟨?read, ?write⟩
  case read => simp [hostRead, good, target, respond]
  case write => simp [hostWrite, good, target, idle, respond]

/-! ### Reset (R255, R256) -/

/-- R256: what a register reads depends on the reset registers and on PENDING alone. -/
theorem readReg_powerOn (r : Reg) (s : State) : readReg r (powerOn s) = Spec.resetWord r := by
  rw [← readReg_reset]
  cases r <;> rfl

theorem step_of_powerReset {s : State} {rest : List HostEvent} (h : s.host = .powerReset :: rest) :
    step s = .next (powerOn { s with host := rest }) := by
  simp [step, h]

/-- Settles O24: the reset state, the state after the reset event and the state after SRESET, register by register. -/
theorem resetValues : Obligations.ResetValues := by
  refine ⟨readReg_reset, rfl, rfl, fun _ => rfl, fun s rest event => ?powerOn, fun s => ?sreset⟩
  case powerOn =>
    exact ⟨_, step_of_powerReset event, fun r => readReg_powerOn r _, rfl, rfl, fun _ => rfl, rfl, rfl⟩
  case sreset =>
    refine ⟨_, exec_sreset s, fun r other => ?_, statusWord_complete_resetRegisters s, rfl, rfl, fun _ => rfl⟩
    rw [readReg_complete other, readReg_resetRegisters other]

/-- Settles O60: no byte is written and no command is pending. -/
theorem resetHasInvariant : Obligations.ResetHasInvariant :=
  ⟨reset_memory_wf, fun _ => rfl⟩

end Sys2Proof.Proofs
end

section
/-! Arithmetic modulo `x^n + c(x)` at any width (40_field_arith.md R127): multiplication by x is additive, so the product of
R123 is the ring's, whatever the reduction constant. GF(2^64) and the bytes of R11 are its two uses. -/

namespace Sys2Proof.Proofs

open Sys2Proof.Machine Sys2Proof.Laws

/-! ### The operations at any width -/

variable {n : Nat}

/-- One multiplication by x with reduction constant `c`: R110 at width 8, R119 at width 64. -/
def timesX (c v : BitVec (n + 1)) : BitVec (n + 1) := (v <<< 1) ^^^ (if v.getLsbD n then c else 0)

/-- The first `k` rounds of R123's loop: the XOR of `v` times x^i over the set bits `i < k` of `p`. -/
def polySum (c v p : BitVec (n + 1)) : Nat → BitVec (n + 1)
  | 0 => 0
  | i + 1 => polySum c v p i ^^^ (if p.getLsbD i then (timesX c)^[i] v else 0)

/-- R123 at any width. -/
def polyMul (c v p : BitVec (n + 1)) : BitVec (n + 1) := polySum c v p (n + 1)

/-! ### Multiplication by x is additive -/

theorem ite_xor_bits {w : Nat} (a b : Bool) (t : BitVec w) :
    (if (a ^^ b) then t else 0) = (if a then t else 0) ^^^ (if b then t else 0) := by
  cases a <;> cases b <;> simp

theorem ite_xor_terms {w : Nat} (a : Bool) (t u : BitVec w) :
    (if a then t ^^^ u else 0) = (if a then t else 0) ^^^ (if a then u else 0) := by
  cases a <;> simp

theorem timesX_xor (c a b : BitVec (n + 1)) : timesX c (a ^^^ b) = timesX c a ^^^ timesX c b := by
  simp only [timesX, BitVec.shiftLeft_xor_distrib, BitVec.getLsbD_xor, ite_xor_bits]
  ac_rfl

theorem timesX_zero (c : BitVec (n + 1)) : timesX c 0 = 0 := by
  simp [timesX]

theorem iterate_timesX_xor (c a b : BitVec (n + 1)) (i : Nat) :
    (timesX c)^[i] (a ^^^ b) = (timesX c)^[i] a ^^^ (timesX c)^[i] b := by
  induction i generalizing a b with
  | zero => rfl
  | succ i ih => rw [Function.iterate_succ_apply, timesX_xor, ih]; rfl

/-- Below the width a power of x is not reduced. -/
theorem iterate_timesX_one (c : BitVec (n + 1)) {i : Nat} (hi : i ≤ n) : (timesX c)^[i] 1#(n + 1) = BitVec.twoPow (n + 1) i := by
  induction i with
  | zero => exact (BitVec.twoPow_zero).symm
  | succ i ih =>
    have top : (BitVec.twoPow (n + 1) i).getLsbD n = false := by
      rw [BitVec.getLsbD_twoPow, decide_eq_false (p := i = n) (by omega), Bool.and_false]
    rw [Function.iterate_succ_apply', ih (by omega), timesX, top, if_neg Bool.false_ne_true, BitVec.twoPow_eq,
      BitVec.twoPow_eq, BitVec.shiftLeft_add]
    exact BitVec.xor_zero

/-! ### The product is additive in both factors -/

theorem polySum_xor_left (c u v p : BitVec (n + 1)) (k : Nat) :
    polySum c (u ^^^ v) p k = polySum c u p k ^^^ polySum c v p k := by
  induction k with
  | zero => simp [polySum]
  | succ k ih =>
    simp only [polySum, ih, iterate_timesX_xor, ite_xor_terms]
    ac_rfl

theorem polySum_xor_right (c v p q : BitVec (n + 1)) (k : Nat) :
    polySum c v (p ^^^ q) k = polySum c v p k ^^^ polySum c v q k := by
  induction k with
  | zero => simp [polySum]
  | succ k ih =>
    simp only [polySum, ih, BitVec.getLsbD_xor, ite_xor_bits]
    ac_rfl

theorem polySum_zero_left (c p : BitVec (n + 1)) (k : Nat) : polySum c 0 p k = 0 := by
  have double := polySum_xor_left c 0 0 p k
  simpa using double

theorem polySum_zero_right (c v : BitVec (n + 1)) (k : Nat) : polySum c v 0 k = 0 := by
  have double := polySum_xor_right c v 0 0 k
  simpa using double

/-! ### One, and the product's laws -/

/-- Only bit 0 of the second factor is set: the first round gives `v`, the others nothing. -/
theorem polySum_one_right (c v : BitVec (n + 1)) (k : Nat) : polySum c v 1#(n + 1) (k + 1) = v := by
  induction k with
  | zero => simp [polySum]
  | succ k ih => rw [polySum, ih]; simp

/-- The powers of x that the bits of `p` choose are `p` again. -/
theorem polySum_one_left_getLsbD (c p : BitVec (n + 1)) {k : Nat} (hk : k ≤ n + 1) (j : Nat) :
    (polySum c 1#(n + 1) p k).getLsbD j = (decide (j < k) && p.getLsbD j) := by
  induction k with
  | zero => simp [polySum]
  | succ k ih =>
    have width : k < n + 1 := by omega
    rw [polySum, iterate_timesX_one c (by omega), BitVec.getLsbD_xor, ih (by omega), apply_ite (BitVec.getLsbD · j),
      BitVec.getLsbD_twoPow, decide_eq_true width, Bool.true_and]
    by_cases same : k = j
    · subst same
      cases p.getLsbD k <;> simp
    · have before : j < k + 1 ↔ j < k := by omega
      simp [same, before]

theorem one_polyMul (c p : BitVec (n + 1)) : polyMul c 1#(n + 1) p = p := by
  refine BitVec.eq_of_getLsbD_eq fun i hi => ?_
  rw [polyMul, polySum_one_left_getLsbD c p le_rfl, decide_eq_true hi, Bool.true_and]

theorem polySum_timesX (c v p : BitVec (n + 1)) (k : Nat) : polySum c (timesX c v) p k = timesX c (polySum c v p k) := by
  induction k with
  | zero => exact (timesX_zero c).symm
  | succ k ih =>
    rw [polySum, polySum, ih, timesX_xor, apply_ite (timesX c), timesX_zero, ← Function.iterate_succ_apply,
      Function.iterate_succ_apply']

theorem polyMul_iterate_timesX (c v p : BitVec (n + 1)) (i : Nat) :
    polyMul c ((timesX c)^[i] v) p = (timesX c)^[i] (polyMul c v p) := by
  induction i with
  | zero => rfl
  | succ i ih => rw [Function.iterate_succ_apply', Function.iterate_succ_apply', polyMul, polySum_timesX, ← polyMul, ih]

/-- A product as the first factor: the sum over the bits of `v` can be taken after the product with `p`. -/
theorem polyMul_polySum (c u v p : BitVec (n + 1)) (k : Nat) :
    polyMul c (polySum c u v k) p = polySum c (polyMul c u p) v k := by
  induction k with
  | zero => exact polySum_zero_left c p (n + 1)
  | succ k ih =>
    rw [polySum, polySum, ← ih, ← polyMul_iterate_timesX, polyMul, polySum_xor_left]
    split
    · rfl
    · rw [polySum_zero_left]
      rfl

theorem polyMul_right_comm (c u v p : BitVec (n + 1)) : polyMul c (polyMul c u v) p = polyMul c (polyMul c u p) v :=
  polyMul_polySum c u v p (n + 1)

/-- R127 law 6: take 1 as the first of three factors. -/
theorem polyMul_comm (c v p : BitVec (n + 1)) : polyMul c v p = polyMul c p v := by
  have swapped := polyMul_right_comm c 1#(n + 1) v p
  rwa [one_polyMul, one_polyMul] at swapped

theorem polyMul_assoc (c u v p : BitVec (n + 1)) : polyMul c (polyMul c u v) p = polyMul c u (polyMul c v p) := by
  rw [polyMul_comm c u v, polyMul_right_comm, polyMul_comm]

/-- What is multiplied to 1 is unique. -/
theorem polyMul_inverse_unique {c a b b' : BitVec (n + 1)} (h : polyMul c a b = 1#(n + 1))
    (h' : polyMul c a b' = 1#(n + 1)) : b = b' := by
  have swapped := polyMul_right_comm c a b' b
  rwa [h, h', one_polyMul, one_polyMul] at swapped

end Sys2Proof.Proofs
end

section
/-! The field-arithmetic and S-box commands (40_field_arith.md, 41_sbox_fsm.md): the model's loops as the arithmetic of any
width, the bytes and halves of what a command leaves in RES, and from these the statements about the commands, the laws of the
field and the S-box tables. -/

namespace Sys2Proof.Proofs

open Sys2Proof.Machine Sys2Proof.Laws

/-! ### The model's loops as arithmetic of any width -/

theorem mulx_eq_timesX (v c : Byte) : mulx v c = timesX c v :=
  mulx_eq_xor v c

theorem mul64x_eq_timesX (v c : DWord) : mul64x v c = timesX c v := by
  rw [mul64x, timesX]
  cases v.getLsbD 63 <;> simp

theorem mulxpow_eq_timesX (v : Byte) (i : Nat) (c : Byte) : mulxpow v i c = (timesX c)^[i] v := by
  rw [mulxpow_eq_iterate]
  simp only [mulx_eq_timesX]

/-- R121: the source's loop is `mul64x` iterated. -/
theorem mul64xpow_eq_iterate (v : DWord) (i : Nat) (c : DWord) : mul64xpow v i c = (fun x => mul64x x c)^[i] v := by
  induction i with
  | zero => rfl
  | succ i ih => rw [mul64xpow_succ, ih, Function.iterate_succ_apply']

theorem mul64xpow_eq_timesX (v : DWord) (i : Nat) (c : DWord) : mul64xpow v i c = (timesX c)^[i] v := by
  rw [mul64xpow_eq_iterate]
  simp only [mul64x_eq_timesX]

theorem mul64Sum_eq_polySum (v p c : DWord) (k : Nat) : mul64Sum v p c k = polySum c v p k := by
  induction k with
  | zero => rfl
  | succ k ih =>
    rw [mul64Sum_succ, polySum, ih, mul64xpow_eq_timesX]
    cases p.getLsbD k <;> simp

/-- R123. -/
theorem mul64_eq_polyMul (v p c : DWord) : mul64 v p c = polyMul c v p :=
  mul64Sum_eq_polySum v p c 64

theorem gfMulBits_eq_polySum (a b c : Byte) (k : Nat) : gfMulBits a b c k = polySum c a b k := by
  induction k with
  | zero => rfl
  | succ k ih =>
    rw [gfMulBits, polySum, ih, mulxpow_eq_timesX]
    cases b.getLsbD k <;> simp

/-- R11. -/
theorem gfMul_eq_polyMul (a b c : Byte) : gfMul a b c = polyMul c a b :=
  gfMulBits_eq_polySum a b c 8

/-! ### The laws of the field arithmetic (R127) -/

theorem be32_xor (a0 a1 a2 a3 b0 b1 b2 b3 : Byte) :
    be32 (a0 ^^^ b0) (a1 ^^^ b1) (a2 ^^^ b2) (a3 ^^^ b3) = be32 a0 a1 a2 a3 ^^^ be32 b0 b1 b2 b3 := by
  rw [be32, be32, be32, BitVec.xor_append, BitVec.xor_append, BitVec.xor_append]

theorem mulxpow_xor (a b : Byte) (i : Nat) (c : Byte) : mulxpow (a ^^^ b) i c = mulxpow a i c ^^^ mulxpow b i c := by
  simp only [mulxpow_eq_timesX, iterate_timesX_xor]

/-- Settles O33: the laws of the arithmetic of any width, at the widths of a byte and of a doubleword. -/
theorem fieldLaws : Obligations.FieldLaws := by
  refine ⟨mulx_xor, ?mul64x, ?mulxpow, ?mul64xpow, ?mulalpha, ?divalpha, ?right, ?left, ?units⟩
  case mul64x =>
    intro a b c
    simp only [mul64x_eq_timesX, timesX_xor]
  case mulxpow =>
    intro a c i j
    rw [mulxpow_eq_iterate, mulxpow_eq_iterate, mulxpow_eq_iterate, Nat.add_comm, Function.iterate_add_apply]
  case mul64xpow =>
    intro a c i j
    rw [mul64xpow_eq_iterate, mul64xpow_eq_iterate, mul64xpow_eq_iterate, Nat.add_comm, Function.iterate_add_apply]
  case mulalpha =>
    intro a b
    simp only [mulalpha, mulxpow_xor, be32_xor]
  case divalpha =>
    intro a b
    simp only [divalpha, mulxpow_xor, be32_xor]
  case right =>
    intro v p q d
    simp only [mul64_eq_polyMul]
    exact polySum_xor_right d v p q 64
  case left =>
    intro u v p d
    simp only [mul64_eq_polyMul]
    exact polySum_xor_left d u v p 64
  case units =>
    intro v p d
    simp only [mul64_eq_polyMul]
    exact ⟨polySum_zero_right d v 64, polySum_one_right d v 63, one_polyMul d p⟩

/-- Settles O34: the product of any width is commutative, and R123's is that of width 64. -/
theorem productCommutes : Obligations.ProductCommutes := by
  intro v p d
  rw [mul64_eq_polyMul, mul64_eq_polyMul, polyMul_comm]

/-! ### What a command leaves in RES -/

@[simp] theorem loHalf_zextWord (w : Word) : loHalf (zextWord w) = w := by
  refine BitVec.eq_of_getLsbD_eq fun i hi => ?_
  have low : i < 64 := by omega
  simp [loHalf, zextWord, hi, low]

@[simp] theorem hiHalf_zextWord (w : Word) : hiHalf (zextWord w) = 0 := by
  refine BitVec.eq_of_getLsbD_eq fun i hi => ?_
  simp [hiHalf, zextWord]

theorem exec_mulalpha (v : Byte) (s : State) : exec (.mulalpha v.toNat) s = finish (writeRes (zextWord (mulalpha v)) s) := by
  have unfolded : exec (.mulalpha v.toNat) s = execMulalpha v.toNat s := rfl
  rw [unfolded, execMulalpha, byteOperand_toNat]

theorem exec_divalpha (v : Byte) (s : State) : exec (.divalpha v.toNat) s = finish (writeRes (zextWord (divalpha v)) s) := by
  have unfolded : exec (.divalpha v.toNat) s = execDivalpha v.toNat s := rfl
  rw [unfolded, execDivalpha, byteOperand_toNat]

/-- Settles O29: both commands finish with four packed powers, each of which is the iterate. -/
theorem alphaResults : Obligations.AlphaResults := by
  intro v s
  obtain ⟨t, run, res, success, frame⟩ := completes_of_eq_finish_writeRes (exec_mulalpha v s)
  obtain ⟨t', run', res', success', frame'⟩ := completes_of_eq_finish_writeRes (exec_divalpha v s)
  refine ⟨⟨t, run, ?_, ?_, ?_, ?_, ?_, success, frame⟩, t', run', ?_, ?_, ?_, ?_, ?_, success', frame'⟩
  all_goals simp only [res, res', hiHalf_zextWord, loHalf_zextWord, mulalpha, divalpha, byteOf_zero_be32, byteOf_one_be32,
    byteOf_two_be32, byteOf_three_be32, mulxpow_eq_iterate, lfsrConst]
  all_goals rfl

/-- R119. -/
theorem toNat_mul64x (v c : DWord) :
    (mul64x v c).toNat = if v.toNat < 2 ^ 63 then 2 * v.toNat else (2 * v.toNat % 2 ^ 64) ^^^ c.toNat :=
  toNat_shiftReduce v c

/-- Settles O31: both commands finish with the model's loop in RES, whose value is R119's and whose iterate is R121's. -/
theorem doublewordShiftResults : Obligations.DoublewordShiftResults := by
  intro i s
  have once : exec .mul64x s = finish (writeRes (mul64x s.opr.opa s.opr.opc) s) := rfl
  have often : exec (.mul64xpow i.toNat) s = finish (writeRes (mul64xpow s.opr.opa i.toNat s.opr.opc) s) := rfl
  rw [mul64xpow_eq_iterate] at often
  refine ⟨?_, completes_of_eq_finish_writeRes often⟩
  obtain ⟨t, run, res, success, frame⟩ := completes_of_eq_finish_writeRes once
  exact ⟨t, run, by rw [← toNat_mul64x, BitVec.ofNat_toNat, BitVec.setWidth_eq, res], success, frame⟩

/-- R123: the loop as a fold over the bits' terms, the lowest bit first. -/
theorem mul64Sum_eq_foldl (v p c : DWord) (n : Nat) :
    mul64Sum v p c n =
      ((List.range n).map fun k => if p.getLsbD k then (fun x => mul64x x c)^[k] v else 0).foldl (· ^^^ ·) 0 := by
  induction n with
  | zero => rfl
  | succ n ih =>
    rw [mul64Sum_succ, List.range_succ, List.map_append, List.foldl_append, ← ih, mul64xpow_eq_iterate]
    cases bit : p.getLsbD n <;> simp [bit]

/-- Settles O32: MUL64 finishes with R123's loop over all 64 bits. -/
theorem productResult : Obligations.ProductResult := by
  intro s
  rw [← mul64Sum_eq_foldl]
  have product : exec .mul64 s = finish (writeRes (mul64Sum s.opr.opa s.opr.opb s.opr.opc 64) s) := rfl
  exact completes_of_eq_finish_writeRes product

/-! ### MASK8 -/

/-- R125: the top `n` bits of a byte as a number. -/
theorem mask8bit_eq_ofNat : ∀ n ≤ 8, mask8bit n = BitVec.ofNat 8 (256 - 2 ^ (8 - n)) := by
  decide

theorem zextByte_mask8bit : ∀ n ≤ 8, zextByte (mask8bit n) = BitVec.ofNat 64 (256 - 2 ^ (8 - n)) := by
  decide

/-- Settles O30: the check of N comes first, and below it the mask is R125's number. -/
theorem maskResult : Obligations.MaskResult := by
  intro n s
  have unfolded : exec (.mask8 n.toNat) s = execMask8 n.toNat s := rfl
  split
  next small =>
    rw [← zextByte_mask8bit _ small]
    refine completes_of_eq_finish_writeRes ?_
    rw [unfolded, execMask8, if_neg (by omega)]
  next large => rw [unfolded, execMask8, if_pos (by omega), raiseError_eq (by decide)]

/-! ### SBOX1 and SBOX2 -/

/-- R140: the rows of the diffusion matrix, in the order of its columns. -/
theorem byteOf_mixColumn (b0 b1 b2 b3 c : Byte) :
    byteOf 0 (mixColumn b0 b1 b2 b3 c) = mulx b0 c ^^^ b1 ^^^ b2 ^^^ (mulx b3 c ^^^ b3) ∧
      byteOf 1 (mixColumn b0 b1 b2 b3 c) = (mulx b0 c ^^^ b0) ^^^ mulx b1 c ^^^ b2 ^^^ b3 ∧
      byteOf 2 (mixColumn b0 b1 b2 b3 c) = b0 ^^^ (mulx b1 c ^^^ b1) ^^^ mulx b2 c ^^^ b3 ∧
      byteOf 3 (mixColumn b0 b1 b2 b3 c) = b0 ^^^ b1 ^^^ (mulx b2 c ^^^ b2) ^^^ mulx b3 c := by
  simp only [mixColumn, byteOf_zero_be32, byteOf_one_be32, byteOf_two_be32, byteOf_three_be32, BitVec.xor_assoc, and_self]

/-- Settles O35: both commands finish with the zero-extended diffusion of the substituted bytes. -/
theorem sboxResults : Obligations.SboxResults := by
  intro s
  have run1 : exec .sbox1 s = finish (writeRes (zextWord (sbox1Word (loHalf s.opr.opa))) s) := rfl
  have run2 : exec .sbox2 s = finish (writeRes (zextWord (sbox2Word (loHalf s.opr.opa))) s) := rfl
  obtain ⟨t, run, res, success, frame⟩ := completes_of_eq_finish_writeRes run1
  obtain ⟨t', run', res', success', frame'⟩ := completes_of_eq_finish_writeRes run2
  refine ⟨⟨t, run, ?_, ?_, success, frame⟩, t', run', ?_, ?_, success', frame'⟩
  · rw [res, hiHalf_zextWord]
  · rw [res, loHalf_zextWord]
    exact byteOf_mixColumn ..
  · rw [res', hiHalf_zextWord]
  · rw [res', loHalf_zextWord]
    exact byteOf_mixColumn ..

/-! ### The generating formulas of the tables -/

/-- The inverse of the affine map of R136. -/
def srAffineInverse (b : Byte) : Byte := b.rotateLeft 1 ^^^ b.rotateLeft 3 ^^^ b.rotateLeft 6 ^^^ 0x05#8

/-- The byte that SR's table says is the inverse of `a` in GF(2^8). -/
def tableInverse (a : Byte) : Byte := srAffineInverse (sboxR a)

theorem srAffine_tableInverse : ∀ a : Byte, srAffine (tableInverse a) = sboxR a := by
  decide +kernel

theorem gfMul_tableInverse : ∀ a : Byte, a ≠ 0 → gfMul a (tableInverse a) 0x1B = 1 := by
  decide +kernel

theorem zero_gfMul (b c : Byte) : gfMul 0 b c = 0 := by
  rw [gfMul_eq_polyMul]
  exact polySum_zero_left c b 8

/-- R136: an inverse is unique, so it is the one that the table holds. -/
theorem sboxR_eq_srAffine {a b : Byte} (inverse : gfMul a b 0x1B = 1) : sboxR a = srAffine b := by
  have nonzero : a ≠ 0 := by
    rintro rfl
    rw [zero_gfMul] at inverse
    exact absurd inverse (by decide)
  have table := gfMul_tableInverse a nonzero
  rw [gfMul_eq_polyMul] at inverse table
  rw [polyMul_inverse_unique inverse table, srAffine_tableInverse]

/-- R138: the powers of the Dickson polynomial, each a product of powers before it. -/
def dicksonByPowers (a : Byte) : Byte :=
  let a2 := gfMul a a 0x69
  let a4 := gfMul a2 a2 0x69
  let a8 := gfMul a4 a4 0x69
  let a16 := gfMul a8 a8 0x69
  let a9 := gfMul a8 a 0x69
  let a13 := gfMul a9 a4 0x69
  let a33 := gfMul (gfMul a16 a16 0x69) a 0x69
  let a41 := gfMul a33 a8 0x69
  let a45 := gfMul a41 a4 0x69
  a ^^^ a9 ^^^ a13 ^^^ gfMul a13 a2 0x69 ^^^ a33 ^^^ a41 ^^^ a45 ^^^ gfMul a45 a2 0x69 ^^^ gfMul a33 a16 0x69

theorem gfPow_add (a : Byte) (m k : Nat) (c : Byte) : gfPow a (m + k) c = gfMul (gfPow a m c) (gfPow a k c) c := by
  induction k with
  | zero =>
    rw [Nat.add_zero, gfPow, gfMul_eq_polyMul]
    exact (polySum_one_right c (gfPow a m c) 7).symm
  | succ k ih =>
    rw [Nat.add_succ, gfPow, gfPow, ih]
    simp only [gfMul_eq_polyMul]
    exact polyMul_assoc ..

theorem gfPow_one (a c : Byte) : gfPow a 1 c = a := by
  rw [gfPow, gfPow, gfMul_eq_polyMul]
  exact one_polyMul c a

theorem dickson49_eq_dicksonByPowers (a : Byte) : dickson49 a = dicksonByPowers a := by
  have power (m k : Nat) : gfPow a (m + k) 0x69#8 = gfMul (gfPow a m 0x69#8) (gfPow a k 0x69#8) 0x69#8 := gfPow_add a m k _
  have one : gfPow a 1 0x69#8 = a := gfPow_one a _
  rw [dickson49, power 45 2, power 41 4, power 33 8, power 33 16, power 32 1, power 13 2, power 9 4, power 8 1, power 16 16,
    power 8 8, power 4 4, power 2 2, power 1 1, one]
  rfl

theorem sboxQ_eq_dicksonByPowers : ∀ a : Byte, sboxQ a = dicksonByPowers a ^^^ 0x25 := by
  decide +kernel

/-- Settles O37: both tables, byte by byte, against the formulas rewritten for evaluation. -/
theorem tablesMatchFormulas : Obligations.TablesMatchFormulas := by
  refine ⟨fun a b => sboxR_eq_srAffine, by decide, fun a nonzero => ⟨_, gfMul_tableInverse a nonzero⟩, fun a => ?_⟩
  rw [dickson49_eq_dicksonByPowers, sboxQ_eq_dicksonByPowers]

end Sys2Proof.Proofs
end

section
/-! The keystream commands, F8 and F9_HASH by their results (42_lfsr_engine.md R167 to R174, 43_f8.md R188 to R193, 44_f9.md
R204 to R208): the words and bytes of a keystream request, the bits that F8 writes, the hash as one fold, and from these the
statements about the commands. -/

namespace Sys2Proof.Proofs

open Sys2Proof.Machine Sys2Proof.Laws

/-! ### A keystream request, word by word -/

theorem ksWords_getD (n : Nat) (e : Engine) {k : Nat} (hk : k < n) :
    (ksWords n e).getD k 0 = ksOutput (ksClock^[k] e) := by
  induction n generalizing e k with
  | zero => exact absurd hk (Nat.not_lt_zero k)
  | succ n ih =>
    cases k with
    | zero => rfl
    | succ k => rw [ksWords, List.getD_cons_succ, ih _ (by omega), Function.iterate_succ_apply]

/-- R170: word `k` of a request is keystream word `k` of the state. -/
theorem keystreamOf_getD {n k : Nat} (hk : k < n) (s : State) : (keystreamOf n s).getD k 0 = nextWord s k := by
  rw [keystreamOf, keystreamWords_pos (by omega), ksWords_getD _ _ hk]
  rfl

/-- R167, R168: a request of no word runs no clock, not even the priming one. -/
theorem advanceKeystream_state (n : Nat) (s : State) :
    (advanceKeystream n s).eng = (if n = 0 then s.eng else ksClock^[n] (primedEngine s)) ∧
      (advanceKeystream n s).engstat = { s.engstat with primed := s.engstat.primed || decide (n ≠ 0) } := by
  by_cases empty : n = 0
  · simp [empty]
  · simp [empty, keystreamWords_pos empty, ksAdvance_eq_iterate, primedEngine]

theorem byteOf_zero_word (j : Nat) : byteOf j 0 = 0 :=
  BitVec.extractLsb'_zero

/-- R174: byte `i` of the keystream is byte `i mod 4` of word `i / 4`. -/
theorem keystreamBytes_getD (ws : List Word) (i : Nat) :
    (keystreamBytes ws).getD i 0 = byteOf (i % 4) (ws.getD (i / 4) 0) := by
  induction ws generalizing i with
  | nil => exact (byteOf_zero_word _).symm
  | cons w ws ih =>
    have bytes : keystreamBytes (w :: ws) = wordBytes w ++ keystreamBytes ws := rfl
    rw [bytes]
    by_cases first : i < 4
    · have here : i < (wordBytes w).length := first
      rw [List.getD_append _ _ _ _ here, List.getD_eq_getElem _ _ here, wordBytes_getElem, Nat.div_eq_of_lt first,
        Nat.mod_eq_of_lt first]
      rfl
    · have later : (wordBytes w).length ≤ i := Nat.not_lt.1 first
      have word : i / 4 = (i - 4) / 4 + 1 := by omega
      have byte : i % 4 = (i - 4) % 4 := by omega
      rw [List.getD_append_right _ _ _ _ later, wordBytes_length, ih, word, byte, List.getD_cons_succ]

/-! ### KS_WORD -/

theorem streaming_eq_true {s : State} (h : s.engstat.state = .streaming) : streaming s = true :=
  decide_eq_true h

/-- Settles O43: KS_WORD finishes with the one word of its request in RES, the request's clocks being ticks. -/
theorem keystreamWordResult : Obligations.KeystreamWordResult := by
  intro s stream
  have run : exec .ksWord s =
      .next (complete .ok (writeRes (zextWord ((keystreamOf 1 s).headD 0)) (advanceKeystream 1 s))) := by
    rw [exec_ksWord, streaming_eq_true stream]
    rfl
  obtain ⟨control, -, -, -, dbuf, hash, freg, context, vok⟩ := commandsWriteOnlyTheirRegisters .ksWord s _ run (by decide)
  obtain ⟨f9, -⟩ := context (by decide)
  obtain ⟨engine, engstat⟩ := advanceKeystream_state 1 s
  have word : (keystreamOf 1 s).headD 0 = ksOutput (primedEngine s) := by
    rw [keystreamOf, keystreamWords_pos (by decide)]
    rfl
  have primed : primedEngine s = if s.engstat.primed then s.eng else Spec.tick s.eng := by
    rw [primedEngine, primeEngine, ksClock_eq_tick]
  refine ⟨_, run, ⟨?res, ?eng⟩, ?engstat, ?success, control, vok (by decide), hash rfl, freg (by decide), f9, dbuf rfl⟩
  case res =>
    rw [← primed, complete_res, writeRes_res, word]
    rfl
  case eng =>
    rw [← primed, ← ksClock_eq_tick]
    exact engine
  case engstat => simpa using engstat
  case success => simp [succeeded]

/-! ### KS_GEN -/

/-- R173: the effect of KS_GEN, before its completion. -/
def ksGenEffect (n : Nat) (s : State) : State :=
  memWrite (dstOffset s) (keystreamBytes (keystreamOf n s)) (advanceKeystream n s)

theorem exec_ksGen_of_checked {n : Nat} {s : State} (stream : s.engstat.state = .streaming)
    (range : dstOffset s + 4 * n ≤ s.cfg.dbufSize) : exec (.ksGen n) s = finish (ksGenEffect n s) := by
  have unfolded : exec (.ksGen n) s = execKsGen n s := rfl
  have inside : inRange s (dstOffset s) (4 * n) = true := (inRange_iff ..).2 range
  rw [unfolded, execKsGen, streaming_eq_true stream, inside]
  rfl

theorem ksGenEffect_bytes_length (n : Nat) (s : State) : (keystreamBytes (keystreamOf n s)).length = 4 * n := by
  rw [keystreamBytes_length, keystreamOf_length]

/-- R174: byte `i` of the destination range after KS_GEN. -/
theorem dbufByte_ksGenEffect {n i : Nat} (hi : i < 4 * n) (s : State) :
    dbufByte (ksGenEffect n s) (dstOffset s + i) = byteOf (i % 4) (nextWord s (i / 4)) := by
  have listed : i < (keystreamBytes (keystreamOf n s)).length := by rwa [ksGenEffect_bytes_length]
  rw [ksGenEffect, dbufByte_memWrite_inside _ _ _ listed, ← List.getD_eq_getElem _ 0 listed, keystreamBytes_getD,
    keystreamOf_getD (by omega)]

/-- Settles O44: KS_GEN finishes with the bytes of its request in its range, and with the request's clocks run. -/
theorem keystreamGenResult : Obligations.KeystreamGenResult := by
  intro n s stream range
  have run : exec (.ksGen n.toNat) s = .next (complete .ok (ksGenEffect n.toNat s)) := exec_ksGen_of_checked stream range
  obtain ⟨control, res, -, -, -, hash, freg, context, vok⟩ :=
    commandsWriteOnlyTheirRegisters (.ksGen n.toNat) s _ run (by simp)
  obtain ⟨f9, -⟩ := context (by simp)
  obtain ⟨engine, engstat⟩ := advanceKeystream_state n.toNat s
  have zero : n = 0 ↔ n.toNat = 0 := BitVec.toNat_eq
  refine ⟨_, run, fun k j hk hj => ?inside, fun a outside => ?outside, ?eng, ?engstat, ?success, control, vok (by simp),
    res rfl, hash rfl, freg (by simp), f9⟩
  case inside =>
    have word : (4 * k + j) / 4 = k := by omega
    have byte : (4 * k + j) % 4 = j := by omega
    rw [dbufByte_complete, Nat.add_assoc, dbufByte_ksGenEffect (by omega), word, byte]
  case outside =>
    rw [← ksGenEffect_bytes_length n.toNat s] at outside
    exact dbufByte_memWrite_outside _ _ _ outside (advanceKeystream n.toNat s)
  case eng =>
    simp only [zero]
    exact engine
  case engstat =>
    simp only [ne_eq, zero]
    exact engstat
  case success => simp [succeeded, ksGenEffect]

/-! ### KS_GEN in two parts (R169) -/

theorem setCells_append (a : Nat) (bs cs : List Byte) (m : List Host.Cell) :
    setCells a (bs ++ cs) m = setCells (a + bs.length) cs (setCells a bs m) := by
  induction bs generalizing a m with
  | nil => rfl
  | cons b bs ih => rw [List.cons_append, setCells, ih, List.length_cons, setCells, Nat.add_assoc, Nat.add_comm 1]

theorem keystreamBytes_append (ws vs : List Word) : keystreamBytes (ws ++ vs) = keystreamBytes ws ++ keystreamBytes vs :=
  List.flatMap_append

/-- The state in which the second command starts: the first has completed, and the host has moved DST to `d`. -/
def afterFirstGen (a : Nat) (d : Word) (s : State) : State :=
  let t := complete .ok (ksGenEffect a s)
  { t with opr := { t.opr with dst := d } }

theorem dbufSize_le (c : Config) : c.dbufSize ≤ 65536 := by
  have bound := c.lastWord.isLt
  rw [Config.dbufSize]
  omega

section

variable {a b : Nat} {d : Word} {s : State} (offset : d.toNat = dstOffset s + 4 * a)
include offset

theorem exec_ksGen_second (stream : s.engstat.state = .streaming) (range : dstOffset s + 4 * (a + b) ≤ s.cfg.dbufSize) :
    exec (.ksGen b) (afterFirstGen a d s) = finish (ksGenEffect b (afterFirstGen a d s)) := by
  have moved : dstOffset (afterFirstGen a d s) = dstOffset s + 4 * a := offset
  have platform : (afterFirstGen a d s).cfg = s.cfg := rfl
  refine exec_ksGen_of_checked stream ?_
  rw [moved, platform]
  omega

/-- R169: the second command continues both the keystream and the range. -/
theorem ksGenEffect_add :
    (ksGenEffect b (afterFirstGen a d s)).eng = (ksGenEffect (a + b) s).eng ∧
      (ksGenEffect b (afterFirstGen a d s)).engstat = (ksGenEffect (a + b) s).engstat ∧
      (ksGenEffect b (afterFirstGen a d s)).dbuf = (ksGenEffect (a + b) s).dbuf := by
  have whole := keystreamWords_add a b s.eng s.engstat.primed
  refine ⟨?eng, ?engstat, ?dbuf⟩
  case eng => simp [ksGenEffect, afterFirstGen, whole]
  case engstat => simp [ksGenEffect, afterFirstGen, whole]
  case dbuf =>
    have words : keystreamOf (a + b) s = keystreamOf a s ++ keystreamOf b (afterFirstGen a d s) := congrArg KsRun.words whole
    have moved : dstOffset (afterFirstGen a d s) = dstOffset s + 4 * a := offset
    have written : (ksGenEffect (a + b) s).dbuf = setCells (dstOffset s) (keystreamBytes (keystreamOf (a + b) s)) s.dbuf := rfl
    rw [written, words, keystreamBytes_append, setCells_append, ksGenEffect_bytes_length, ← moved]
    rfl

end

/-- Settles O46: DST plus 4a does not wrap, DBUF being smaller than 2^32 bytes. -/
theorem keystreamGenSplits : Obligations.KeystreamGenSplits := by
  intro a b s stream range
  have size := dbufSize_le s.cfg
  have offset : (s.opr.dst + BitVec.ofNat 32 (4 * a)).toNat = dstOffset s + 4 * a := by
    rw [BitVec.toNat_add, BitVec.toNat_ofNat]
    simp only [dstOffset] at *
    omega
  have first : exec (.ksGen a) s = finish (ksGenEffect a s) := exec_ksGen_of_checked stream (by omega)
  have second := exec_ksGen_second offset stream range
  have whole : exec (.ksGen (a + b)) s = finish (ksGenEffect (a + b) s) := exec_ksGen_of_checked stream range
  obtain ⟨eng, engstat, dbuf⟩ := ksGenEffect_add (b := b) offset
  refine ⟨_, _, _, first, second, whole, ?_, ?_, eng, engstat, fun x => dbufByte_congr dbuf rfl x⟩
  · simp [succeeded, ksGenEffect]
  · simp [succeeded, ksGenEffect, afterFirstGen]

/-! ### F8 -/

/-- R191: the three checks pass with a length that fits LEN_LO, a stream and both ranges in DBUF. -/
theorem exec_f8_of_checked {s : State} (length : s.opr.len.toNat < 2 ^ 32) (stream : s.engstat.state = .streaming)
    (source : srcOffset s + (s.opr.len.toNat + 7) / 8 ≤ s.cfg.dbufSize)
    (destination : dstOffset s + 4 * ((s.opr.len.toNat + 31) / 32) ≤ s.cfg.dbufSize) :
    exec .f8 s = finish (f8Effect s) := by
  have high : hiHalf s.opr.len = 0 := by
    by_contra long
    exact absurd ((hiHalf_ne_zero_iff _).1 long) (Nat.not_le.2 length)
  have input : inRange s (srcOffset s) (byteCount (f8Length s)) = true := by
    rw [f8Length_of_hiHalf_zero high]
    exact (inRange_iff ..).2 source
  have output : inRange s (dstOffset s) (4 * wordCount (f8Length s)) = true := by
    rw [f8Length_of_hiHalf_zero high]
    exact (inRange_iff ..).2 destination
  have unfolded : exec .f8 s = execF8 s := rfl
  rw [unfolded, execF8, if_neg (not_not.2 high), streaming_eq_true stream, input, output]
  rfl

/-- R36: the length of F8 is the whole of LEN where it fits LEN_LO. -/
theorem f8Length_of_lt {s : State} (length : s.opr.len.toNat < 2 ^ 32) : f8Length s = s.opr.len.toNat := by
  rw [f8Length, loHalf, BitVec.extractLsb'_toNat, Nat.shiftRight_zero, Nat.mod_eq_of_lt length]

/-- R190: the byte of data and the keystream byte that the datapath joins at index `i`. -/
theorem f8_operands {s : State} {i : Nat} (hi : i < byteCount (f8Length s)) :
    (f8Input s).getD i 0 = dbufByte s (srcOffset s + i) ∧
      (keystreamOf (wordCount (f8Length s)) s).getD (i / 4) 0 = nextWord s (i / 4) := by
  have bytes : byteCount (f8Length s) = (f8Length s + 7) / 8 := rfl
  have words : wordCount (f8Length s) = (f8Length s + 31) / 32 := rfl
  exact ⟨memRead_getD _ _ _ _ hi _, keystreamOf_getD (by omega) s⟩

/-- Settles O49: byte `i` of the range is the datapath's, whose mask is R125's number. -/
theorem cipherResult : Obligations.CipherResult := by
  intro s len nb n length stream source destination
  have run : exec .f8 s = .next (complete .ok (f8Effect s)) := exec_f8_of_checked length stream source destination
  obtain ⟨control, res, -, -, -, hash, freg, context, vok⟩ := commandsWriteOnlyTheirRegisters .f8 s _ run (by decide)
  obtain ⟨f9, -⟩ := context (by decide)
  have whole : f8Length s = len := f8Length_of_lt length
  have bytes : byteCount (f8Length s) = nb := by rw [whole]; rfl
  have words : wordCount (f8Length s) = n := by rw [whole]; rfl
  have empty : n = 0 ↔ len = 0 := by omega
  obtain ⟨engine, engstat⟩ := advanceKeystream_state n s
  have clocks : (f8Effect s).eng = (advanceKeystream n s).eng ∧ (f8Effect s).engstat = (advanceKeystream n s).engstat := by
    rw [← words]
    exact ⟨rfl, rfl⟩
  obtain ⟨sameEngine, sameEngstat⟩ := clocks
  refine ⟨_, run, fun i hi => ?inside, fun a outside => ?outside, ?eng, ?engstat, ?success, control, vok (by decide), res rfl,
    hash rfl, freg (by decide), f9⟩
  case inside =>
    rw [dbufByte_complete, dbufByte_f8Effect s (by omega), f8Byte, bytes, whole]
    split
    next => rfl
    next data =>
      obtain ⟨input, word⟩ := f8_operands (s := s) (i := i) (by omega)
      rw [whole] at word
      rw [input, word, mask8bit_eq_ofNat _ (by omega)]
  case outside =>
    have written : (f8Written s).length = 4 * n := by rw [f8Written, f8Output_length, words]
    rw [← written] at outside
    exact dbufByte_memWrite_outside _ _ _ outside (advanceKeystream _ s)
  case eng =>
    simp only [← empty]
    exact sameEngine.trans engine
  case engstat =>
    simp only [ne_eq, ← empty]
    exact sameEngstat.trans engstat
  case success => simp [succeeded, f8Effect]

/-! ### The bits of F8 (R190, R193) -/

/-- The keystream bit that F8 joins to message bit `j`. -/
def keystreamBit (s : State) (j : Nat) : Bool := (byteOf (j / 8 % 4) (nextWord s (j / 8 / 4))).getLsbD (7 - j % 8)

/-- R190: below the length an output bit is the message bit XOR its keystream bit, and beyond it is 0. -/
theorem f8Byte_getLsbD_below (data : List Byte) (ks : List Word) {len j : Nat} (h : j < len) :
    (f8Byte data (j / 8) ks len).getLsbD (7 - j % 8) =
      ((data.getD (j / 8) 0).getLsbD (7 - j % 8) ^^ (byteOf (j / 8 % 4) (ks.getD (j / 8 / 4) 0)).getLsbD (7 - j % 8)) := by
  have count : byteCount len = (len + 7) / 8 := rfl
  rw [f8Byte, if_neg (by omega)]
  split
  next last =>
    have kept : j % 8 < len % 8 := by omega
    rw [BitVec.getLsbD_and, mask8bit_getLsbD _ (Nat.mod_lt j (by decide)), decide_eq_true kept, Bool.and_true,
      BitVec.getLsbD_xor]
  next => rw [BitVec.getLsbD_xor]

/-- R190, R191: bit `j` of the destination range after F8. -/
theorem messageBit_f8Effect {s : State} {j : Nat} (hj : j < 32 * wordCount (f8Length s)) :
    messageBit (f8Effect s) (dstOffset s) j =
      (decide (j < f8Length s) && (messageBit s (srcOffset s) j ^^ keystreamBit s j)) := by
  have bytes : byteCount (f8Length s) = (f8Length s + 7) / 8 := rfl
  rw [messageBit, dbufByte_f8Effect s (by omega)]
  by_cases below : j < f8Length s
  · obtain ⟨input, word⟩ := f8_operands (s := s) (i := j / 8) (by omega)
    rw [f8Byte_getLsbD_below _ _ below, input, word, decide_eq_true below, Bool.true_and]
    rfl
  · rw [f8Byte_getLsbD_beyond _ _ (Nat.not_lt.1 below), decide_eq_false below, Bool.false_and]

/-- R193: the state in which F8 deciphers its own output: the engine context restored, SRC at the output. -/
def decipherState (d : Word) (s t : State) : State :=
  { t with eng := s.eng, engstat := s.engstat, opr := { t.opr with src := s.opr.dst, dst := d } }

/-- Settles O51: the second F8 joins the same keystream bits again, below the same length. -/
theorem cipherInvertsItself : Obligations.CipherInvertsItself := by
  intro s t d run ok range
  obtain ⟨high, stream, -, destination, rfl⟩ := exec_f8_ok run ok
  have whole : f8Length s = s.opr.len.toNat := f8Length_of_hiHalf_zero high
  have words : wordCount (f8Length s) = (f8Length s + 31) / 32 := rfl
  have length : s.opr.len.toNat < 2 ^ 32 := by rw [← whole]; exact (loHalf s.opr.len).isLt
  have inside : dstOffset s + 4 * wordCount (f8Length s) ≤ s.cfg.dbufSize := (inRange_iff ..).1 destination
  let r := decipherState d s (complete .ok (f8Effect s))
  have second : exec .f8 r = .next (complete .ok (f8Effect r)) := by
    refine exec_f8_of_checked length (of_decide_eq_true stream) ?_ range
    change dstOffset s + (s.opr.len.toNat + 7) / 8 ≤ s.cfg.dbufSize
    omega
  have bit {j : Nat} (hj : j < 32 * wordCount (f8Length s)) : messageBit (f8Effect r) d.toNat j =
      (decide (j < f8Length s) && (messageBit (f8Effect s) (dstOffset s) j ^^ keystreamBit s j)) :=
    messageBit_f8Effect (s := r) hj
  have completed (j : Nat) : messageBit (complete .ok (f8Effect r)) d.toNat j = messageBit (f8Effect r) d.toNat j := rfl
  refine ⟨_, second, rfl, fun j hj => ?below, fun j beyond hj => ?beyond⟩
  case below =>
    have written : j < 32 * wordCount (f8Length s) := by omega
    have data : j < f8Length s := by omega
    rw [completed, bit written, messageBit_f8Effect written]
    simp [data]
  case beyond =>
    have padding : ¬ j < f8Length s := by omega
    rw [completed, bit (by omega)]
    simp [padding]

/-! ### F9_HASH -/

/-- R206: the last message block, where there is one, is one more step of the fold. -/
theorem f9Eval_eq_foldl (p q len : DWord) (data : List Byte) :
    f9Eval p q (messageBlocks data len.toNat) len =
      mul64 ((messageBlocks data len.toNat).foldl (hashStep p) 0 ^^^ len) q f9Const := by
  have length := messageBlocks_length data len.toNat
  have count := blockCount_sub_one len.toNat
  rw [f9Eval]
  generalize messageBlocks data len.toNat = blocks at *
  generalize blockCount len.toNat = d at *
  have body : (if d ≥ 2 then hashStep p ((blocks.take (d - 2)).foldl (hashStep p) 0) (blocks.getD (d - 2) 0)
      else (blocks.take (d - 2)).foldl (hashStep p) 0) = blocks.foldl (hashStep p) 0 := by
    split
    next several =>
      have last : d - 2 < blocks.length := by omega
      have all : blocks.take (d - 2) ++ [blocks[d - 2]] = blocks := by
        rw [← List.take_succ_eq_append_getElem last, List.take_of_length_le (by omega)]
      rw [List.getD_eq_getElem _ _ last]
      conv_rhs => rw [← all, List.foldl_append]
      rfl
    next one =>
      have empty : blocks = [] := List.eq_nil_of_length_eq_zero (by omega)
      simp [empty]
  simp only [body]

/-- R206: the hash as a function of the context, the message's blocks and the length. -/
theorem evalOf_eq_f9Eval (s : State) :
    evalOf s =
      f9Eval s.f9.p s.f9.q (messageBlocks (memRead s (srcOffset s) ((s.opr.len.toNat + 7) / 8)) s.opr.len.toNat)
        s.opr.len := rfl

/-- R206: the model's hash is the spec's fold. -/
theorem evalOf_eq_hashOf (s : State) : evalOf s = Spec.hashOf s := by
  rw [evalOf_eq_f9Eval, f9Eval_eq_foldl, messageBlocks_eq]
  rfl

theorem maciOf_eq (s : State) : maciOf s = hiHalf (Spec.hashOf s) ^^^ s.f9.z5 := by
  rw [maciOf, evalOf_eq_hashOf]

/-- Settles O54: F9_HASH finishes with the hash written, and the model's hash is the spec's fold. -/
theorem hashResult : Obligations.HashResult := by
  intro s valid range
  have run : exec .f9Hash s = .next (complete .ok (writeHash s)) := exec_f9Hash_of_checked valid range
  obtain ⟨control, res, engine, engstat, dbuf, -, freg, context, vok⟩ :=
    commandsWriteOnlyTheirRegisters .f9Hash s _ run (by decide)
  obtain ⟨f9, -⟩ := context (by decide)
  exact ⟨_, run, evalOf_eq_hashOf s, maciOf_eq s, complete_ok_succeeded _, control, vok (by decide), res rfl, freg (by decide),
    f9, engine rfl, engstat rfl, dbuf rfl⟩

theorem zero_mul64 (p c : DWord) : mul64 0 p c = 0 := by
  rw [mul64_eq_polyMul]
  exact polySum_zero_left c p 64

/-- R206: with no message block, what is multiplied by Q is the length 0. -/
theorem hashOf_empty {s : State} (empty : s.opr.len = 0) : Spec.hashOf s = 0 := by
  simpa [Spec.hashOf, empty] using zero_mul64 s.f9.q 0x1B

/-- Settles O56: the hash of no block is 0, so MACI is Z5. -/
theorem emptyMessageHash : Obligations.EmptyMessageHash := by
  intro s valid empty range
  have message : srcOffset s + (s.opr.len.toNat + 7) / 8 ≤ s.cfg.dbufSize := by
    rw [empty]
    exact range
  obtain ⟨t, run, eval, maci, success, -⟩ := hashResult s valid message
  rw [hashOf_empty empty] at eval maci
  refine ⟨t, run, eval, ?_, success⟩
  rw [maci]
  exact BitVec.zero_xor

/-- R208: an F9_HASH that ends without an error passed its checks. -/
theorem exec_f9Hash_ok {s t : State} (run : exec .f9Hash s = .next t) (ok : t.status.errcode = .ok) :
    s.engstat.f9valid = true ∧ srcOffset s + (s.opr.len.toNat + 7) / 8 ≤ s.cfg.dbufSize := by
  have code : commandError .f9Hash s = .ok := by rw [← ok, endsWith_errcode (run ▸ exec_endsWith .f9Hash s)]
  rw [commandError_hash (.inl rfl)] at code
  split at code
  next => cases code
  next valid =>
    split at code
    next => cases code
    next range =>
      have inside : inRange s (srcOffset s) (byteCount (f9Length s)) = true := by simpa using range
      exact ⟨by simpa using valid, (inRange_iff ..).1 inside⟩

/-- R205: two messages of `len` bits that agree bit by bit have the same blocks. -/
theorem messageBlocks_congr {s s' : State} {a a' len : Nat} (same : ∀ j < len, messageBit s' a' j = messageBit s a j) :
    messageBlocks (memRead s' a' ((len + 7) / 8)) len = messageBlocks (memRead s a ((len + 7) / 8)) len := by
  rw [messageBlocks_eq, messageBlocks_eq]
  refine List.map_congr_left fun i _ => BitVec.eq_of_getLsbD_eq fun b hb => ?_
  obtain ⟨k, hk, rfl⟩ : ∃ k < 64, b = 63 - k := ⟨63 - b, by omega, by omega⟩
  rw [messageBlock_getLsbD _ _ _ hk, messageBlock_getLsbD _ _ _ hk]
  by_cases inside : 64 * i + k < len
  · have byte : (64 * i + k) / 8 = 8 * i + k / 8 := by omega
    have bit : (64 * i + k) % 8 = k % 8 := by omega
    have agree := same _ inside
    rw [messageBit_eq_memRead s' a' inside, messageBit_eq_memRead s a inside, byte, bit] at agree
    rw [agree]
  · simp [inside]

/-- Settles O57: the hash reads the state through the context, the length and the message's blocks alone. -/
theorem hashDependsOnlyOnMessage : Obligations.HashDependsOnlyOnMessage := by
  intro s s' t run ok context valid' length range' same
  obtain ⟨valid, range⟩ := exec_f9Hash_ok run ok
  rw [exec_f9Hash_of_checked valid range] at run
  obtain rfl := (finish_eq_next _ _).1 run
  have blocks := messageBlocks_congr same
  have eval : evalOf s' = evalOf s := by rw [evalOf_eq_f9Eval, evalOf_eq_f9Eval, context, length, blocks]
  have maci : maciOf s' = maciOf s := by rw [maciOf, maciOf, eval, context]
  exact ⟨_, exec_f9Hash_of_checked valid' range', eval, maci, rfl⟩

end Sys2Proof.Proofs
end
